-- ==== Sys2Proof/Word.lean ====
section
/-! DEFINITION. The two value types of the hardware (00_scope.md R5, R7): the byte of a register or a
memory cell, and the 16-bit word of PC, SP and an address. -/

namespace Sys2Proof

/-- 8 bits: a register, a memory cell, an opcode or operand byte. -/
abbrev Byte := BitVec 8

/-- 16 bits: PC, SP, a 16-bit operand; arithmetic on it wraps modulo 65536 (R8). -/
abbrev Word := BitVec 16

/-- A memory address: every 16-bit value is one (20_memory.md R30). -/
abbrev Addr := Word

end Sys2Proof
end

