-- ==== Sys2Proof/Config.lean ====
section
/-! DEFINITION. What is fixed for the machine and not state: the size of memory (00_scope.md R5) and the
one parameter the spec leaves open for the whole run, `TRACE_WINDOW` (R6, R25, D13). -/

namespace Sys2Proof

/-- The number of memory cells (R5, R21). -/
def Config.memorySize : Nat := 65536

/-- The memory window that a snapshot shows: `length` bytes from `base`, addresses modulo 65536
(60_exceptions.md R108). -/
structure TraceWindow where
  base   : Addr
  length : Nat
  deriving DecidableEq, Repr, Inhabited

/-- `TRACE_WINDOW`. The source speaks of "a fixed memory window" and gives no address and no length
(N12): the constant has no body, so a claim holds for every window (log 6). -/
opaque Config.traceWindow : TraceWindow

end Sys2Proof
end

