-- ==== Sys2Proof/Syntax.lean ====
section
/-! DEFINITION. The instructions as syntax: the operand names of the spec and ONE inductive with one
constructor for every row of spec/opcode_table.json: the 31 instructions of rule R54 and the 225
unimplemented opcodes of rule R57, in the order of the opcode byte. -/

namespace Sys2Proof

/-- The seven 8-bit general registers (10_state.md R11). F is named by no instruction (R52). -/
inductive Reg8 where
  | A | B | C | D | E | H | L
  deriving DecidableEq, Repr

/-- The three register pairs, views with no storage of their own (10_state.md R12). -/
inductive RegPair where
  | BC | DE | HL
  deriving DecidableEq, Repr

/-- The source operand of a move into A or of an add (20_memory.md R42): a register, the memory byte
`M` at the address HL, or the immediate byte of the instruction stream. -/
inductive Src where
  | reg (r : Reg8)
  | mem
  | imm (d8 : Byte)
  deriving DecidableEq, Repr

/-- The instruction formats (30_encoding.md R50): an opcode byte and 0, 1 or 2 operand bytes. -/
inductive Format where
  | F0 | F1 | F2
  deriving DecidableEq, Repr

/-- How many operand bytes follow the opcode byte (30_encoding.md R50). -/
def Format.operandCount : Format → Nat
  | .F0 => 0
  | .F1 => 1
  | .F2 => 2

/-- The 256 rows of the opcode table. An immediate byte `d8` and a 16-bit operand `d16`, `a16` take
every value of their width (30_encoding.md R56, R58). The constructor `unimplemented0xNN` is the
unimplemented opcode byte 0xNN (R57): one byte, no operand. -/
inductive Instr where
  /-- `NOP` (R92). -/
  | nop
  /-- `LXI B,d16` (R73). -/
  | lxiB (d16 : Word)
  | unimplemented0x02
  | unimplemented0x03
  | unimplemented0x04
  | unimplemented0x05
  /-- `MVI B,d8` (R72). -/
  | mviB (d8 : Byte)
  | unimplemented0x07
  | unimplemented0x08
  | unimplemented0x09
  | unimplemented0x0A
  | unimplemented0x0B
  | unimplemented0x0C
  | unimplemented0x0D
  /-- `MVI C,d8` (R72). -/
  | mviC (d8 : Byte)
  | unimplemented0x0F
  | unimplemented0x10
  /-- `LXI D,d16` (R73). -/
  | lxiD (d16 : Word)
  | unimplemented0x12
  | unimplemented0x13
  | unimplemented0x14
  | unimplemented0x15
  /-- `MVI D,d8` (R72). -/
  | mviD (d8 : Byte)
  | unimplemented0x17
  | unimplemented0x18
  | unimplemented0x19
  | unimplemented0x1A
  | unimplemented0x1B
  | unimplemented0x1C
  | unimplemented0x1D
  /-- `MVI E,d8` (R72). -/
  | mviE (d8 : Byte)
  | unimplemented0x1F
  | unimplemented0x20
  /-- `LXI H,d16` (R73). -/
  | lxiH (d16 : Word)
  | unimplemented0x22
  | unimplemented0x23
  | unimplemented0x24
  | unimplemented0x25
  /-- `MVI H,d8` (R72). -/
  | mviH (d8 : Byte)
  | unimplemented0x27
  | unimplemented0x28
  | unimplemented0x29
  | unimplemented0x2A
  | unimplemented0x2B
  | unimplemented0x2C
  | unimplemented0x2D
  /-- `MVI L,d8` (R72). -/
  | mviL (d8 : Byte)
  | unimplemented0x2F
  | unimplemented0x30
  /-- `LXI SP,d16` (R74). -/
  | lxiSP (d16 : Word)
  /-- `STA a16` (R75). -/
  | sta (a16 : Addr)
  | unimplemented0x33
  | unimplemented0x34
  | unimplemented0x35
  | unimplemented0x36
  | unimplemented0x37
  | unimplemented0x38
  | unimplemented0x39
  | unimplemented0x3A
  | unimplemented0x3B
  | unimplemented0x3C
  | unimplemented0x3D
  /-- `MVI A,d8` (R72). -/
  | mviA (d8 : Byte)
  | unimplemented0x3F
  | unimplemented0x40
  | unimplemented0x41
  | unimplemented0x42
  | unimplemented0x43
  | unimplemented0x44
  | unimplemented0x45
  | unimplemented0x46
  | unimplemented0x47
  | unimplemented0x48
  | unimplemented0x49
  | unimplemented0x4A
  | unimplemented0x4B
  | unimplemented0x4C
  | unimplemented0x4D
  | unimplemented0x4E
  | unimplemented0x4F
  | unimplemented0x50
  | unimplemented0x51
  | unimplemented0x52
  | unimplemented0x53
  | unimplemented0x54
  | unimplemented0x55
  | unimplemented0x56
  | unimplemented0x57
  | unimplemented0x58
  | unimplemented0x59
  | unimplemented0x5A
  | unimplemented0x5B
  | unimplemented0x5C
  | unimplemented0x5D
  | unimplemented0x5E
  | unimplemented0x5F
  | unimplemented0x60
  | unimplemented0x61
  | unimplemented0x62
  | unimplemented0x63
  | unimplemented0x64
  | unimplemented0x65
  | unimplemented0x66
  | unimplemented0x67
  | unimplemented0x68
  | unimplemented0x69
  | unimplemented0x6A
  | unimplemented0x6B
  | unimplemented0x6C
  | unimplemented0x6D
  | unimplemented0x6E
  | unimplemented0x6F
  | unimplemented0x70
  | unimplemented0x71
  | unimplemented0x72
  | unimplemented0x73
  | unimplemented0x74
  | unimplemented0x75
  /-- `HLT` (R93). -/
  | hlt
  | unimplemented0x77
  /-- `MOV A,B` (R70). -/
  | movAB
  /-- `MOV A,C` (R70). -/
  | movAC
  /-- `MOV A,D` (R70). -/
  | movAD
  /-- `MOV A,E` (R70). -/
  | movAE
  /-- `MOV A,H` (R70). -/
  | movAH
  /-- `MOV A,L` (R70). -/
  | movAL
  /-- `MOV A,M`: A from the byte at HL (R71). -/
  | movAM
  /-- `MOV A,A` (R70). -/
  | movAA
  /-- `ADD B` (R81). -/
  | addB
  /-- `ADD C` (R81). -/
  | addC
  /-- `ADD D` (R81). -/
  | addD
  /-- `ADD E` (R81). -/
  | addE
  /-- `ADD H` (R81). -/
  | addH
  /-- `ADD L` (R81). -/
  | addL
  /-- `ADD M`: the byte at HL added to A (R82). -/
  | addM
  /-- `ADD A` (R81). -/
  | addA
  | unimplemented0x88
  | unimplemented0x89
  | unimplemented0x8A
  | unimplemented0x8B
  | unimplemented0x8C
  | unimplemented0x8D
  | unimplemented0x8E
  | unimplemented0x8F
  | unimplemented0x90
  | unimplemented0x91
  | unimplemented0x92
  | unimplemented0x93
  | unimplemented0x94
  | unimplemented0x95
  | unimplemented0x96
  | unimplemented0x97
  | unimplemented0x98
  | unimplemented0x99
  | unimplemented0x9A
  | unimplemented0x9B
  | unimplemented0x9C
  | unimplemented0x9D
  | unimplemented0x9E
  | unimplemented0x9F
  | unimplemented0xA0
  | unimplemented0xA1
  | unimplemented0xA2
  | unimplemented0xA3
  | unimplemented0xA4
  | unimplemented0xA5
  | unimplemented0xA6
  | unimplemented0xA7
  | unimplemented0xA8
  | unimplemented0xA9
  | unimplemented0xAA
  | unimplemented0xAB
  | unimplemented0xAC
  | unimplemented0xAD
  | unimplemented0xAE
  | unimplemented0xAF
  | unimplemented0xB0
  | unimplemented0xB1
  | unimplemented0xB2
  | unimplemented0xB3
  | unimplemented0xB4
  | unimplemented0xB5
  | unimplemented0xB6
  | unimplemented0xB7
  | unimplemented0xB8
  | unimplemented0xB9
  | unimplemented0xBA
  | unimplemented0xBB
  | unimplemented0xBC
  | unimplemented0xBD
  | unimplemented0xBE
  | unimplemented0xBF
  | unimplemented0xC0
  | unimplemented0xC1
  | unimplemented0xC2
  | unimplemented0xC3
  | unimplemented0xC4
  | unimplemented0xC5
  /-- `ADI d8` (R83). -/
  | adi (d8 : Byte)
  | unimplemented0xC7
  | unimplemented0xC8
  | unimplemented0xC9
  | unimplemented0xCA
  | unimplemented0xCB
  | unimplemented0xCC
  | unimplemented0xCD
  | unimplemented0xCE
  | unimplemented0xCF
  | unimplemented0xD0
  | unimplemented0xD1
  | unimplemented0xD2
  | unimplemented0xD3
  | unimplemented0xD4
  | unimplemented0xD5
  | unimplemented0xD6
  | unimplemented0xD7
  | unimplemented0xD8
  | unimplemented0xD9
  | unimplemented0xDA
  | unimplemented0xDB
  | unimplemented0xDC
  | unimplemented0xDD
  | unimplemented0xDE
  | unimplemented0xDF
  | unimplemented0xE0
  | unimplemented0xE1
  | unimplemented0xE2
  | unimplemented0xE3
  | unimplemented0xE4
  | unimplemented0xE5
  | unimplemented0xE6
  | unimplemented0xE7
  | unimplemented0xE8
  | unimplemented0xE9
  | unimplemented0xEA
  | unimplemented0xEB
  | unimplemented0xEC
  | unimplemented0xED
  | unimplemented0xEE
  | unimplemented0xEF
  | unimplemented0xF0
  | unimplemented0xF1
  | unimplemented0xF2
  | unimplemented0xF3
  | unimplemented0xF4
  | unimplemented0xF5
  | unimplemented0xF6
  | unimplemented0xF7
  | unimplemented0xF8
  | unimplemented0xF9
  | unimplemented0xFA
  | unimplemented0xFB
  | unimplemented0xFC
  | unimplemented0xFD
  | unimplemented0xFE
  | unimplemented0xFF
  deriving DecidableEq, Repr

end Sys2Proof
end

