-- ==== Sys2Proof/Machine/State.lean ====
section
/-! DEFINITION. The state of the CORE (10_state.md R10 to R25), the snapshots it hands out (60_exceptions.md
R108), the reasons a step could stop, and the state after reset (R26, R120). -/

namespace Sys2Proof.Machine

/-- The Memory Image (R21): (address, byte) pairs, addresses strictly rising and below 65536, no entry
equal to what an unlisted address reads as (`Memory.wf`, Ops.lean). -/
abbrev Memory := List Host.Cell

/-- The identity of a step in its snapshot (R108, D18). -/
inductive Report where
  /-- EXECUTED(inst): one of the 31 instructions, with its operands. -/
  | executed (i : Instr)
  /-- UNIMPLEMENTED(op): an opcode byte that selects no instruction (R94). -/
  | unimplemented (op : Byte)
  deriving DecidableEq, Repr

/-- The record emitted on the trace port after every step (R108). -/
structure Snapshot where
  /-- `count` after the increment: 1 for the first step. -/
  seq    : Nat
  what   : Report
  a      : Byte
  b      : Byte
  c      : Byte
  d      : Byte
  e      : Byte
  h      : Byte
  l      : Byte
  f      : Byte
  pc     : Word
  sp     : Word
  /-- The bytes of the memory window `TRACE_WINDOW`. -/
  window : List Byte
  deriving DecidableEq, Repr

/-- Every piece of state the spec gives the machine (R10), and the output of its trace port. -/
structure State where
  /-- The accumulator (R11). -/
  a      : Byte
  b      : Byte
  c      : Byte
  d      : Byte
  e      : Byte
  h      : Byte
  l      : Byte
  /-- The flag byte (R13): S 0x80, Z 0x40, AC 0x10, P 0x04, CY 0x01. -/
  f      : Byte
  /-- The program counter (R15). -/
  pc     : Word
  /-- The stack pointer (R17). -/
  sp     : Word
  /-- The terminal-state bit (R19). -/
  halted : Bool
  /-- InstructionCount, an unbounded natural number (R20, D8). -/
  count  : Nat
  /-- The Memory Image (R21). -/
  mem    : Memory
  /-- The snapshots the trace port has emitted, newest first (R108; the model's own field, log 5). -/
  trace  : List Snapshot
  deriving DecidableEq, Repr

/-- The CORE has no fault: "The CORE raises no synchronous exception" (R100), and a step "always
completes" (R90). The type has no constructor, so no step of the model can fault (log 7). -/
inductive Fault where
  deriving DecidableEq, Repr

/-- Why the model could decline an instruction. -/
inductive Refusal where
  /-- Raised only by an arm of `exec` whose instruction has no meaning yet; no arm does. Safe: a run
  stops where the hardware goes on. -/
  | notModelled (mnemonic : String)
  deriving DecidableEq, Repr

/-- The state right after reset (R26, R120), with nothing loaded: every cell of memory reads 0x00.
`State.boot` (Ops.lean) is the same state with any `IMAGE` in memory. -/
def State.reset : State where
  a      := 0x00#8
  b      := 0x00#8
  c      := 0x00#8
  d      := 0x00#8
  e      := 0x00#8
  h      := 0x00#8
  l      := 0x00#8
  f      := 0x00#8
  pc     := 0x0000#16
  sp     := 0xFFFF#16
  halted := false
  count  := 0
  mem    := []
  trace  := []

end Sys2Proof.Machine
end

