-- ==== Sys2Proof/Machine/Flags.lean ====
section
/-! DEFINITION. The Flag Computation Unit (41_arithmetic.md R80, R85, R86): Sign, Zero and Parity from the
new accumulator value; Carry, AuxCarry and bits 5, 3 and 1 are never written. -/

namespace Sys2Proof.Machine

/-- The mask of S, bit 7 of F (10_state.md R13). -/
def signMask : Byte := 0x80#8
/-- The mask of Z, bit 6 of F. -/
def zeroMask : Byte := 0x40#8
/-- The mask of AC, bit 4 of F. -/
def auxCarryMask : Byte := 0x10#8
/-- The mask of P, bit 2 of F. -/
def parityMask : Byte := 0x04#8
/-- The mask of CY, bit 0 of F. -/
def carryMask : Byte := 0x01#8

/-- The bits of F that UpdateFlags keeps: 5, 4, 3, 1 and 0 (R80). -/
def keptMask : Byte := 0x3B#8

/-- How many bits of a byte are 1. -/
def onesCount (v : Byte) : Nat :=
  v[7].toNat + v[6].toNat + v[5].toNat + v[4].toNat + v[3].toNat + v[2].toNat + v[1].toNat + v[0].toNat

/-- S: bit 7 of the result. -/
def signOf (v : Byte) : Bool := v[7]
/-- Z: the result is 0x00. -/
def zeroOf (v : Byte) : Bool := v == 0x00#8
/-- P: even parity, an even number of 1 bits. -/
def parityOf (v : Byte) : Bool := onesCount v % 2 == 0

/-- A mask when its flag is set, no bit when it is clear. -/
def flagBit (mask : Byte) (set : Bool) : Byte := if set then mask else 0x00#8

/-- `UpdateFlags(v)` on a flag byte `f` (R80). -/
def updateFlags (v f : Byte) : Byte :=
  (f &&& keptMask) ||| flagBit signMask (signOf v) ||| flagBit zeroMask (zeroOf v)
    ||| flagBit parityMask (parityOf v)

/-- `UpdateFlags(v)` on the machine. -/
def State.updateFlags (s : State) (v : Byte) : State := { s with f := Machine.updateFlags v s.f }

end Sys2Proof.Machine
end

