-- ==== Sys2Proof/Decode.lean ====
section
/-! DEFINITION. The decoder (30_encoding.md R50 to R57) and, after it, the encoder.
The byte values are the spec's own decision D1 (92_eei_decisions.md; the source gives none), so the
opcode map stands here alone, as sixteen rows of sixteen opcodes; no meaning depends on a byte value.
Every list of bytes decodes or is rejected by name; on the machine, where memory always has a next
byte, nothing is rejected (R55: decode is total). -/

namespace Sys2Proof

/-! ### Byte order (R32, R56) -/

/-- The 16-bit word `hi*256 + lo` (00_scope.md R7, `hi:lo`). -/
def wordOfBytes (hi lo : Byte) : Word := hi ++ lo

/-- Bits 15:8 of a word. -/
def hiByte (w : Word) : Byte := w.extractLsb' 8 8

/-- Bits 7:0 of a word. -/
def loByte (w : Word) : Byte := w.extractLsb' 0 8

/-! ### The opcode map (R54, R57) -/

/-- Opcode bytes 0x00 to 0x0F (R54, R57): the argument is the low digit of the opcode byte. -/
def opcodeRow0 (low : Nat) (b1 b2 : Byte) : Instr :=
  match low with
  | 0x0 => .nop
  | 0x1 => .lxiB (wordOfBytes b2 b1)
  | 0x2 => .unimplemented0x02
  | 0x3 => .unimplemented0x03
  | 0x4 => .unimplemented0x04
  | 0x5 => .unimplemented0x05
  | 0x6 => .mviB b1
  | 0x7 => .unimplemented0x07
  | 0x8 => .unimplemented0x08
  | 0x9 => .unimplemented0x09
  | 0xA => .unimplemented0x0A
  | 0xB => .unimplemented0x0B
  | 0xC => .unimplemented0x0C
  | 0xD => .unimplemented0x0D
  | 0xE => .mviC b1
  | _   => .unimplemented0x0F

/-- Opcode bytes 0x10 to 0x1F (R54, R57): the argument is the low digit of the opcode byte. -/
def opcodeRow1 (low : Nat) (b1 b2 : Byte) : Instr :=
  match low with
  | 0x0 => .unimplemented0x10
  | 0x1 => .lxiD (wordOfBytes b2 b1)
  | 0x2 => .unimplemented0x12
  | 0x3 => .unimplemented0x13
  | 0x4 => .unimplemented0x14
  | 0x5 => .unimplemented0x15
  | 0x6 => .mviD b1
  | 0x7 => .unimplemented0x17
  | 0x8 => .unimplemented0x18
  | 0x9 => .unimplemented0x19
  | 0xA => .unimplemented0x1A
  | 0xB => .unimplemented0x1B
  | 0xC => .unimplemented0x1C
  | 0xD => .unimplemented0x1D
  | 0xE => .mviE b1
  | _   => .unimplemented0x1F

/-- Opcode bytes 0x20 to 0x2F (R54, R57): the argument is the low digit of the opcode byte. -/
def opcodeRow2 (low : Nat) (b1 b2 : Byte) : Instr :=
  match low with
  | 0x0 => .unimplemented0x20
  | 0x1 => .lxiH (wordOfBytes b2 b1)
  | 0x2 => .unimplemented0x22
  | 0x3 => .unimplemented0x23
  | 0x4 => .unimplemented0x24
  | 0x5 => .unimplemented0x25
  | 0x6 => .mviH b1
  | 0x7 => .unimplemented0x27
  | 0x8 => .unimplemented0x28
  | 0x9 => .unimplemented0x29
  | 0xA => .unimplemented0x2A
  | 0xB => .unimplemented0x2B
  | 0xC => .unimplemented0x2C
  | 0xD => .unimplemented0x2D
  | 0xE => .mviL b1
  | _   => .unimplemented0x2F

/-- Opcode bytes 0x30 to 0x3F (R54, R57): the argument is the low digit of the opcode byte. -/
def opcodeRow3 (low : Nat) (b1 b2 : Byte) : Instr :=
  match low with
  | 0x0 => .unimplemented0x30
  | 0x1 => .lxiSP (wordOfBytes b2 b1)
  | 0x2 => .sta (wordOfBytes b2 b1)
  | 0x3 => .unimplemented0x33
  | 0x4 => .unimplemented0x34
  | 0x5 => .unimplemented0x35
  | 0x6 => .unimplemented0x36
  | 0x7 => .unimplemented0x37
  | 0x8 => .unimplemented0x38
  | 0x9 => .unimplemented0x39
  | 0xA => .unimplemented0x3A
  | 0xB => .unimplemented0x3B
  | 0xC => .unimplemented0x3C
  | 0xD => .unimplemented0x3D
  | 0xE => .mviA b1
  | _   => .unimplemented0x3F

/-- Opcode bytes 0x40 to 0x4F (R54, R57): the argument is the low digit of the opcode byte. -/
def opcodeRow4 (low : Nat) (_b1 _b2 : Byte) : Instr :=
  match low with
  | 0x0 => .unimplemented0x40
  | 0x1 => .unimplemented0x41
  | 0x2 => .unimplemented0x42
  | 0x3 => .unimplemented0x43
  | 0x4 => .unimplemented0x44
  | 0x5 => .unimplemented0x45
  | 0x6 => .unimplemented0x46
  | 0x7 => .unimplemented0x47
  | 0x8 => .unimplemented0x48
  | 0x9 => .unimplemented0x49
  | 0xA => .unimplemented0x4A
  | 0xB => .unimplemented0x4B
  | 0xC => .unimplemented0x4C
  | 0xD => .unimplemented0x4D
  | 0xE => .unimplemented0x4E
  | _   => .unimplemented0x4F

/-- Opcode bytes 0x50 to 0x5F (R54, R57): the argument is the low digit of the opcode byte. -/
def opcodeRow5 (low : Nat) (_b1 _b2 : Byte) : Instr :=
  match low with
  | 0x0 => .unimplemented0x50
  | 0x1 => .unimplemented0x51
  | 0x2 => .unimplemented0x52
  | 0x3 => .unimplemented0x53
  | 0x4 => .unimplemented0x54
  | 0x5 => .unimplemented0x55
  | 0x6 => .unimplemented0x56
  | 0x7 => .unimplemented0x57
  | 0x8 => .unimplemented0x58
  | 0x9 => .unimplemented0x59
  | 0xA => .unimplemented0x5A
  | 0xB => .unimplemented0x5B
  | 0xC => .unimplemented0x5C
  | 0xD => .unimplemented0x5D
  | 0xE => .unimplemented0x5E
  | _   => .unimplemented0x5F

/-- Opcode bytes 0x60 to 0x6F (R54, R57): the argument is the low digit of the opcode byte. -/
def opcodeRow6 (low : Nat) (_b1 _b2 : Byte) : Instr :=
  match low with
  | 0x0 => .unimplemented0x60
  | 0x1 => .unimplemented0x61
  | 0x2 => .unimplemented0x62
  | 0x3 => .unimplemented0x63
  | 0x4 => .unimplemented0x64
  | 0x5 => .unimplemented0x65
  | 0x6 => .unimplemented0x66
  | 0x7 => .unimplemented0x67
  | 0x8 => .unimplemented0x68
  | 0x9 => .unimplemented0x69
  | 0xA => .unimplemented0x6A
  | 0xB => .unimplemented0x6B
  | 0xC => .unimplemented0x6C
  | 0xD => .unimplemented0x6D
  | 0xE => .unimplemented0x6E
  | _   => .unimplemented0x6F

/-- Opcode bytes 0x70 to 0x7F (R54, R57): the argument is the low digit of the opcode byte. -/
def opcodeRow7 (low : Nat) (_b1 _b2 : Byte) : Instr :=
  match low with
  | 0x0 => .unimplemented0x70
  | 0x1 => .unimplemented0x71
  | 0x2 => .unimplemented0x72
  | 0x3 => .unimplemented0x73
  | 0x4 => .unimplemented0x74
  | 0x5 => .unimplemented0x75
  | 0x6 => .hlt
  | 0x7 => .unimplemented0x77
  | 0x8 => .movAB
  | 0x9 => .movAC
  | 0xA => .movAD
  | 0xB => .movAE
  | 0xC => .movAH
  | 0xD => .movAL
  | 0xE => .movAM
  | _   => .movAA

/-- Opcode bytes 0x80 to 0x8F (R54, R57): the argument is the low digit of the opcode byte. -/
def opcodeRow8 (low : Nat) (_b1 _b2 : Byte) : Instr :=
  match low with
  | 0x0 => .addB
  | 0x1 => .addC
  | 0x2 => .addD
  | 0x3 => .addE
  | 0x4 => .addH
  | 0x5 => .addL
  | 0x6 => .addM
  | 0x7 => .addA
  | 0x8 => .unimplemented0x88
  | 0x9 => .unimplemented0x89
  | 0xA => .unimplemented0x8A
  | 0xB => .unimplemented0x8B
  | 0xC => .unimplemented0x8C
  | 0xD => .unimplemented0x8D
  | 0xE => .unimplemented0x8E
  | _   => .unimplemented0x8F

/-- Opcode bytes 0x90 to 0x9F (R54, R57): the argument is the low digit of the opcode byte. -/
def opcodeRow9 (low : Nat) (_b1 _b2 : Byte) : Instr :=
  match low with
  | 0x0 => .unimplemented0x90
  | 0x1 => .unimplemented0x91
  | 0x2 => .unimplemented0x92
  | 0x3 => .unimplemented0x93
  | 0x4 => .unimplemented0x94
  | 0x5 => .unimplemented0x95
  | 0x6 => .unimplemented0x96
  | 0x7 => .unimplemented0x97
  | 0x8 => .unimplemented0x98
  | 0x9 => .unimplemented0x99
  | 0xA => .unimplemented0x9A
  | 0xB => .unimplemented0x9B
  | 0xC => .unimplemented0x9C
  | 0xD => .unimplemented0x9D
  | 0xE => .unimplemented0x9E
  | _   => .unimplemented0x9F

/-- Opcode bytes 0xA0 to 0xAF (R54, R57): the argument is the low digit of the opcode byte. -/
def opcodeRowA (low : Nat) (_b1 _b2 : Byte) : Instr :=
  match low with
  | 0x0 => .unimplemented0xA0
  | 0x1 => .unimplemented0xA1
  | 0x2 => .unimplemented0xA2
  | 0x3 => .unimplemented0xA3
  | 0x4 => .unimplemented0xA4
  | 0x5 => .unimplemented0xA5
  | 0x6 => .unimplemented0xA6
  | 0x7 => .unimplemented0xA7
  | 0x8 => .unimplemented0xA8
  | 0x9 => .unimplemented0xA9
  | 0xA => .unimplemented0xAA
  | 0xB => .unimplemented0xAB
  | 0xC => .unimplemented0xAC
  | 0xD => .unimplemented0xAD
  | 0xE => .unimplemented0xAE
  | _   => .unimplemented0xAF

/-- Opcode bytes 0xB0 to 0xBF (R54, R57): the argument is the low digit of the opcode byte. -/
def opcodeRowB (low : Nat) (_b1 _b2 : Byte) : Instr :=
  match low with
  | 0x0 => .unimplemented0xB0
  | 0x1 => .unimplemented0xB1
  | 0x2 => .unimplemented0xB2
  | 0x3 => .unimplemented0xB3
  | 0x4 => .unimplemented0xB4
  | 0x5 => .unimplemented0xB5
  | 0x6 => .unimplemented0xB6
  | 0x7 => .unimplemented0xB7
  | 0x8 => .unimplemented0xB8
  | 0x9 => .unimplemented0xB9
  | 0xA => .unimplemented0xBA
  | 0xB => .unimplemented0xBB
  | 0xC => .unimplemented0xBC
  | 0xD => .unimplemented0xBD
  | 0xE => .unimplemented0xBE
  | _   => .unimplemented0xBF

/-- Opcode bytes 0xC0 to 0xCF (R54, R57): the argument is the low digit of the opcode byte. -/
def opcodeRowC (low : Nat) (b1 _b2 : Byte) : Instr :=
  match low with
  | 0x0 => .unimplemented0xC0
  | 0x1 => .unimplemented0xC1
  | 0x2 => .unimplemented0xC2
  | 0x3 => .unimplemented0xC3
  | 0x4 => .unimplemented0xC4
  | 0x5 => .unimplemented0xC5
  | 0x6 => .adi b1
  | 0x7 => .unimplemented0xC7
  | 0x8 => .unimplemented0xC8
  | 0x9 => .unimplemented0xC9
  | 0xA => .unimplemented0xCA
  | 0xB => .unimplemented0xCB
  | 0xC => .unimplemented0xCC
  | 0xD => .unimplemented0xCD
  | 0xE => .unimplemented0xCE
  | _   => .unimplemented0xCF

/-- Opcode bytes 0xD0 to 0xDF (R54, R57): the argument is the low digit of the opcode byte. -/
def opcodeRowD (low : Nat) (_b1 _b2 : Byte) : Instr :=
  match low with
  | 0x0 => .unimplemented0xD0
  | 0x1 => .unimplemented0xD1
  | 0x2 => .unimplemented0xD2
  | 0x3 => .unimplemented0xD3
  | 0x4 => .unimplemented0xD4
  | 0x5 => .unimplemented0xD5
  | 0x6 => .unimplemented0xD6
  | 0x7 => .unimplemented0xD7
  | 0x8 => .unimplemented0xD8
  | 0x9 => .unimplemented0xD9
  | 0xA => .unimplemented0xDA
  | 0xB => .unimplemented0xDB
  | 0xC => .unimplemented0xDC
  | 0xD => .unimplemented0xDD
  | 0xE => .unimplemented0xDE
  | _   => .unimplemented0xDF

/-- Opcode bytes 0xE0 to 0xEF (R54, R57): the argument is the low digit of the opcode byte. -/
def opcodeRowE (low : Nat) (_b1 _b2 : Byte) : Instr :=
  match low with
  | 0x0 => .unimplemented0xE0
  | 0x1 => .unimplemented0xE1
  | 0x2 => .unimplemented0xE2
  | 0x3 => .unimplemented0xE3
  | 0x4 => .unimplemented0xE4
  | 0x5 => .unimplemented0xE5
  | 0x6 => .unimplemented0xE6
  | 0x7 => .unimplemented0xE7
  | 0x8 => .unimplemented0xE8
  | 0x9 => .unimplemented0xE9
  | 0xA => .unimplemented0xEA
  | 0xB => .unimplemented0xEB
  | 0xC => .unimplemented0xEC
  | 0xD => .unimplemented0xED
  | 0xE => .unimplemented0xEE
  | _   => .unimplemented0xEF

/-- Opcode bytes 0xF0 to 0xFF (R54, R57): the argument is the low digit of the opcode byte. -/
def opcodeRowF (low : Nat) (_b1 _b2 : Byte) : Instr :=
  match low with
  | 0x0 => .unimplemented0xF0
  | 0x1 => .unimplemented0xF1
  | 0x2 => .unimplemented0xF2
  | 0x3 => .unimplemented0xF3
  | 0x4 => .unimplemented0xF4
  | 0x5 => .unimplemented0xF5
  | 0x6 => .unimplemented0xF6
  | 0x7 => .unimplemented0xF7
  | 0x8 => .unimplemented0xF8
  | 0x9 => .unimplemented0xF9
  | 0xA => .unimplemented0xFA
  | 0xB => .unimplemented0xFB
  | 0xC => .unimplemented0xFC
  | 0xD => .unimplemented0xFD
  | 0xE => .unimplemented0xFE
  | _   => .unimplemented0xFF

/-- The instruction that opcode byte `op` selects, with `b1` and `b2` the bytes after it; a format
that has fewer operand bytes ignores the rest (R55, R56). A 16-bit operand has its low byte first. -/
def instrOfBytes (op b1 b2 : Byte) : Instr :=
  match op.toNat / 16 with
  | 0x0 => opcodeRow0 (op.toNat % 16) b1 b2
  | 0x1 => opcodeRow1 (op.toNat % 16) b1 b2
  | 0x2 => opcodeRow2 (op.toNat % 16) b1 b2
  | 0x3 => opcodeRow3 (op.toNat % 16) b1 b2
  | 0x4 => opcodeRow4 (op.toNat % 16) b1 b2
  | 0x5 => opcodeRow5 (op.toNat % 16) b1 b2
  | 0x6 => opcodeRow6 (op.toNat % 16) b1 b2
  | 0x7 => opcodeRow7 (op.toNat % 16) b1 b2
  | 0x8 => opcodeRow8 (op.toNat % 16) b1 b2
  | 0x9 => opcodeRow9 (op.toNat % 16) b1 b2
  | 0xA => opcodeRowA (op.toNat % 16) b1 b2
  | 0xB => opcodeRowB (op.toNat % 16) b1 b2
  | 0xC => opcodeRowC (op.toNat % 16) b1 b2
  | 0xD => opcodeRowD (op.toNat % 16) b1 b2
  | 0xE => opcodeRowE (op.toNat % 16) b1 b2
  | _   => opcodeRowF (op.toNat % 16) b1 b2

/-- The format, and so the length, is a function of byte 0 alone (R50, R55, R59), by the bit fields
of R51: `00ddd110` but 0x36, and `ADI`, are F1; `00rp0001` and `STA` are F2; all others are F0. -/
def formatOfOpcode (op : Byte) : Format :=
  if op = 0xC6#8 ∨ (op &&& 0xC7#8 = 0x06#8 ∧ op ≠ 0x36#8) then .F1
  else if op = 0x32#8 ∨ op &&& 0xCF#8 = 0x01#8 then .F2
  else .F0

/-- Why a list of bytes is rejected. Both are safe: neither can happen on the machine, whose memory
has a byte at every address (R30). -/
inductive DecodeError where
  /-- The list is empty: there is no opcode byte. -/
  | noOpcode
  /-- The list ends before the operand bytes that the format of `op` calls for. -/
  | missingOperand (op : Byte)
  deriving DecidableEq, Repr

/-- Decode the instruction at the head of a list of bytes, and give the bytes after it. -/
def decode : List Byte → Except DecodeError (Instr × List Byte)
  | [] => .error .noOpcode
  | op :: rest =>
    match formatOfOpcode op, rest with
    | .F0, rest => .ok (instrOfBytes op 0x00#8 0x00#8, rest)
    | .F1, b1 :: rest => .ok (instrOfBytes op b1 0x00#8, rest)
    | .F2, b1 :: b2 :: rest => .ok (instrOfBytes op b1 b2, rest)
    | .F1, [] | .F2, [] | .F2, [_] => .error (.missingOperand op)

/-! ### Unimplemented opcodes (R57, R94) -/

/-- The 31 opcode bytes of rule R54. -/
def implementedOpcodes : List Byte :=
  [0x00#8, 0x01#8, 0x06#8, 0x0E#8, 0x11#8, 0x16#8, 0x1E#8, 0x21#8]
    ++ [0x26#8, 0x2E#8, 0x31#8, 0x32#8, 0x3E#8, 0x76#8, 0x78#8, 0x79#8]
    ++ [0x7A#8, 0x7B#8, 0x7C#8, 0x7D#8, 0x7E#8, 0x7F#8, 0x80#8, 0x81#8]
    ++ [0x82#8, 0x83#8, 0x84#8, 0x85#8, 0x86#8, 0x87#8, 0xC6#8]

/-- The class of a row of the opcode table: `false` for the 31 instructions (R54), `true` for the 225
unimplemented opcodes (R57), whose step is marked UNIMPLEMENTED in the snapshot (R94, R108). -/
def Instr.isUnimplemented : Instr → Bool
  | .nop | .lxiB _ | .mviB _ | .mviC _ | .lxiD _ | .mviD _ | .mviE _ | .lxiH _
  | .mviH _ | .mviL _ | .lxiSP _ | .sta _ | .mviA _ | .hlt | .movAB | .movAC
  | .movAD | .movAE | .movAH | .movAL | .movAM | .movAA | .addB | .addC
  | .addD | .addE | .addH | .addL | .addM | .addA | .adi _ => false
  | .unimplemented0x02 | .unimplemented0x03 | .unimplemented0x04 | .unimplemented0x05 | .unimplemented0x07
  | .unimplemented0x08 | .unimplemented0x09 | .unimplemented0x0A | .unimplemented0x0B | .unimplemented0x0C
  | .unimplemented0x0D | .unimplemented0x0F | .unimplemented0x10 | .unimplemented0x12 | .unimplemented0x13
  | .unimplemented0x14 | .unimplemented0x15 | .unimplemented0x17 | .unimplemented0x18 | .unimplemented0x19
  | .unimplemented0x1A | .unimplemented0x1B | .unimplemented0x1C | .unimplemented0x1D | .unimplemented0x1F
  | .unimplemented0x20 | .unimplemented0x22 | .unimplemented0x23 | .unimplemented0x24 | .unimplemented0x25
  | .unimplemented0x27 | .unimplemented0x28 | .unimplemented0x29 | .unimplemented0x2A | .unimplemented0x2B
  | .unimplemented0x2C | .unimplemented0x2D | .unimplemented0x2F | .unimplemented0x30 | .unimplemented0x33
  | .unimplemented0x34 | .unimplemented0x35 | .unimplemented0x36 | .unimplemented0x37 | .unimplemented0x38
  | .unimplemented0x39 | .unimplemented0x3A | .unimplemented0x3B | .unimplemented0x3C | .unimplemented0x3D
  | .unimplemented0x3F | .unimplemented0x40 | .unimplemented0x41 | .unimplemented0x42 | .unimplemented0x43
  | .unimplemented0x44 | .unimplemented0x45 | .unimplemented0x46 | .unimplemented0x47 | .unimplemented0x48
  | .unimplemented0x49 | .unimplemented0x4A | .unimplemented0x4B | .unimplemented0x4C | .unimplemented0x4D
  | .unimplemented0x4E | .unimplemented0x4F | .unimplemented0x50 | .unimplemented0x51 | .unimplemented0x52
  | .unimplemented0x53 | .unimplemented0x54 | .unimplemented0x55 | .unimplemented0x56 | .unimplemented0x57
  | .unimplemented0x58 | .unimplemented0x59 | .unimplemented0x5A | .unimplemented0x5B | .unimplemented0x5C
  | .unimplemented0x5D | .unimplemented0x5E | .unimplemented0x5F | .unimplemented0x60 | .unimplemented0x61
  | .unimplemented0x62 | .unimplemented0x63 | .unimplemented0x64 | .unimplemented0x65 | .unimplemented0x66
  | .unimplemented0x67 | .unimplemented0x68 | .unimplemented0x69 | .unimplemented0x6A | .unimplemented0x6B
  | .unimplemented0x6C | .unimplemented0x6D | .unimplemented0x6E | .unimplemented0x6F | .unimplemented0x70
  | .unimplemented0x71 | .unimplemented0x72 | .unimplemented0x73 | .unimplemented0x74 | .unimplemented0x75
  | .unimplemented0x77 | .unimplemented0x88 | .unimplemented0x89 | .unimplemented0x8A | .unimplemented0x8B
  | .unimplemented0x8C | .unimplemented0x8D | .unimplemented0x8E | .unimplemented0x8F | .unimplemented0x90
  | .unimplemented0x91 | .unimplemented0x92 | .unimplemented0x93 | .unimplemented0x94 | .unimplemented0x95
  | .unimplemented0x96 | .unimplemented0x97 | .unimplemented0x98 | .unimplemented0x99 | .unimplemented0x9A
  | .unimplemented0x9B | .unimplemented0x9C | .unimplemented0x9D | .unimplemented0x9E | .unimplemented0x9F
  | .unimplemented0xA0 | .unimplemented0xA1 | .unimplemented0xA2 | .unimplemented0xA3 | .unimplemented0xA4
  | .unimplemented0xA5 | .unimplemented0xA6 | .unimplemented0xA7 | .unimplemented0xA8 | .unimplemented0xA9
  | .unimplemented0xAA | .unimplemented0xAB | .unimplemented0xAC | .unimplemented0xAD | .unimplemented0xAE
  | .unimplemented0xAF | .unimplemented0xB0 | .unimplemented0xB1 | .unimplemented0xB2 | .unimplemented0xB3
  | .unimplemented0xB4 | .unimplemented0xB5 | .unimplemented0xB6 | .unimplemented0xB7 | .unimplemented0xB8
  | .unimplemented0xB9 | .unimplemented0xBA | .unimplemented0xBB | .unimplemented0xBC | .unimplemented0xBD
  | .unimplemented0xBE | .unimplemented0xBF | .unimplemented0xC0 | .unimplemented0xC1 | .unimplemented0xC2
  | .unimplemented0xC3 | .unimplemented0xC4 | .unimplemented0xC5 | .unimplemented0xC7 | .unimplemented0xC8
  | .unimplemented0xC9 | .unimplemented0xCA | .unimplemented0xCB | .unimplemented0xCC | .unimplemented0xCD
  | .unimplemented0xCE | .unimplemented0xCF | .unimplemented0xD0 | .unimplemented0xD1 | .unimplemented0xD2
  | .unimplemented0xD3 | .unimplemented0xD4 | .unimplemented0xD5 | .unimplemented0xD6 | .unimplemented0xD7
  | .unimplemented0xD8 | .unimplemented0xD9 | .unimplemented0xDA | .unimplemented0xDB | .unimplemented0xDC
  | .unimplemented0xDD | .unimplemented0xDE | .unimplemented0xDF | .unimplemented0xE0 | .unimplemented0xE1
  | .unimplemented0xE2 | .unimplemented0xE3 | .unimplemented0xE4 | .unimplemented0xE5 | .unimplemented0xE6
  | .unimplemented0xE7 | .unimplemented0xE8 | .unimplemented0xE9 | .unimplemented0xEA | .unimplemented0xEB
  | .unimplemented0xEC | .unimplemented0xED | .unimplemented0xEE | .unimplemented0xEF | .unimplemented0xF0
  | .unimplemented0xF1 | .unimplemented0xF2 | .unimplemented0xF3 | .unimplemented0xF4 | .unimplemented0xF5
  | .unimplemented0xF6 | .unimplemented0xF7 | .unimplemented0xF8 | .unimplemented0xF9 | .unimplemented0xFA
  | .unimplemented0xFB | .unimplemented0xFC | .unimplemented0xFD | .unimplemented0xFE | .unimplemented0xFF => true

/-! ### The encoder (R50, R54, R56) -/

/-- Byte 0 of an instruction (R54, R57). -/
def Instr.opcode : Instr → Byte
  | .nop => 0x00#8
  | .lxiB _ => 0x01#8
  | .unimplemented0x02 => 0x02#8
  | .unimplemented0x03 => 0x03#8
  | .unimplemented0x04 => 0x04#8
  | .unimplemented0x05 => 0x05#8
  | .mviB _ => 0x06#8
  | .unimplemented0x07 => 0x07#8
  | .unimplemented0x08 => 0x08#8
  | .unimplemented0x09 => 0x09#8
  | .unimplemented0x0A => 0x0A#8
  | .unimplemented0x0B => 0x0B#8
  | .unimplemented0x0C => 0x0C#8
  | .unimplemented0x0D => 0x0D#8
  | .mviC _ => 0x0E#8
  | .unimplemented0x0F => 0x0F#8
  | .unimplemented0x10 => 0x10#8
  | .lxiD _ => 0x11#8
  | .unimplemented0x12 => 0x12#8
  | .unimplemented0x13 => 0x13#8
  | .unimplemented0x14 => 0x14#8
  | .unimplemented0x15 => 0x15#8
  | .mviD _ => 0x16#8
  | .unimplemented0x17 => 0x17#8
  | .unimplemented0x18 => 0x18#8
  | .unimplemented0x19 => 0x19#8
  | .unimplemented0x1A => 0x1A#8
  | .unimplemented0x1B => 0x1B#8
  | .unimplemented0x1C => 0x1C#8
  | .unimplemented0x1D => 0x1D#8
  | .mviE _ => 0x1E#8
  | .unimplemented0x1F => 0x1F#8
  | .unimplemented0x20 => 0x20#8
  | .lxiH _ => 0x21#8
  | .unimplemented0x22 => 0x22#8
  | .unimplemented0x23 => 0x23#8
  | .unimplemented0x24 => 0x24#8
  | .unimplemented0x25 => 0x25#8
  | .mviH _ => 0x26#8
  | .unimplemented0x27 => 0x27#8
  | .unimplemented0x28 => 0x28#8
  | .unimplemented0x29 => 0x29#8
  | .unimplemented0x2A => 0x2A#8
  | .unimplemented0x2B => 0x2B#8
  | .unimplemented0x2C => 0x2C#8
  | .unimplemented0x2D => 0x2D#8
  | .mviL _ => 0x2E#8
  | .unimplemented0x2F => 0x2F#8
  | .unimplemented0x30 => 0x30#8
  | .lxiSP _ => 0x31#8
  | .sta _ => 0x32#8
  | .unimplemented0x33 => 0x33#8
  | .unimplemented0x34 => 0x34#8
  | .unimplemented0x35 => 0x35#8
  | .unimplemented0x36 => 0x36#8
  | .unimplemented0x37 => 0x37#8
  | .unimplemented0x38 => 0x38#8
  | .unimplemented0x39 => 0x39#8
  | .unimplemented0x3A => 0x3A#8
  | .unimplemented0x3B => 0x3B#8
  | .unimplemented0x3C => 0x3C#8
  | .unimplemented0x3D => 0x3D#8
  | .mviA _ => 0x3E#8
  | .unimplemented0x3F => 0x3F#8
  | .unimplemented0x40 => 0x40#8
  | .unimplemented0x41 => 0x41#8
  | .unimplemented0x42 => 0x42#8
  | .unimplemented0x43 => 0x43#8
  | .unimplemented0x44 => 0x44#8
  | .unimplemented0x45 => 0x45#8
  | .unimplemented0x46 => 0x46#8
  | .unimplemented0x47 => 0x47#8
  | .unimplemented0x48 => 0x48#8
  | .unimplemented0x49 => 0x49#8
  | .unimplemented0x4A => 0x4A#8
  | .unimplemented0x4B => 0x4B#8
  | .unimplemented0x4C => 0x4C#8
  | .unimplemented0x4D => 0x4D#8
  | .unimplemented0x4E => 0x4E#8
  | .unimplemented0x4F => 0x4F#8
  | .unimplemented0x50 => 0x50#8
  | .unimplemented0x51 => 0x51#8
  | .unimplemented0x52 => 0x52#8
  | .unimplemented0x53 => 0x53#8
  | .unimplemented0x54 => 0x54#8
  | .unimplemented0x55 => 0x55#8
  | .unimplemented0x56 => 0x56#8
  | .unimplemented0x57 => 0x57#8
  | .unimplemented0x58 => 0x58#8
  | .unimplemented0x59 => 0x59#8
  | .unimplemented0x5A => 0x5A#8
  | .unimplemented0x5B => 0x5B#8
  | .unimplemented0x5C => 0x5C#8
  | .unimplemented0x5D => 0x5D#8
  | .unimplemented0x5E => 0x5E#8
  | .unimplemented0x5F => 0x5F#8
  | .unimplemented0x60 => 0x60#8
  | .unimplemented0x61 => 0x61#8
  | .unimplemented0x62 => 0x62#8
  | .unimplemented0x63 => 0x63#8
  | .unimplemented0x64 => 0x64#8
  | .unimplemented0x65 => 0x65#8
  | .unimplemented0x66 => 0x66#8
  | .unimplemented0x67 => 0x67#8
  | .unimplemented0x68 => 0x68#8
  | .unimplemented0x69 => 0x69#8
  | .unimplemented0x6A => 0x6A#8
  | .unimplemented0x6B => 0x6B#8
  | .unimplemented0x6C => 0x6C#8
  | .unimplemented0x6D => 0x6D#8
  | .unimplemented0x6E => 0x6E#8
  | .unimplemented0x6F => 0x6F#8
  | .unimplemented0x70 => 0x70#8
  | .unimplemented0x71 => 0x71#8
  | .unimplemented0x72 => 0x72#8
  | .unimplemented0x73 => 0x73#8
  | .unimplemented0x74 => 0x74#8
  | .unimplemented0x75 => 0x75#8
  | .hlt => 0x76#8
  | .unimplemented0x77 => 0x77#8
  | .movAB => 0x78#8
  | .movAC => 0x79#8
  | .movAD => 0x7A#8
  | .movAE => 0x7B#8
  | .movAH => 0x7C#8
  | .movAL => 0x7D#8
  | .movAM => 0x7E#8
  | .movAA => 0x7F#8
  | .addB => 0x80#8
  | .addC => 0x81#8
  | .addD => 0x82#8
  | .addE => 0x83#8
  | .addH => 0x84#8
  | .addL => 0x85#8
  | .addM => 0x86#8
  | .addA => 0x87#8
  | .unimplemented0x88 => 0x88#8
  | .unimplemented0x89 => 0x89#8
  | .unimplemented0x8A => 0x8A#8
  | .unimplemented0x8B => 0x8B#8
  | .unimplemented0x8C => 0x8C#8
  | .unimplemented0x8D => 0x8D#8
  | .unimplemented0x8E => 0x8E#8
  | .unimplemented0x8F => 0x8F#8
  | .unimplemented0x90 => 0x90#8
  | .unimplemented0x91 => 0x91#8
  | .unimplemented0x92 => 0x92#8
  | .unimplemented0x93 => 0x93#8
  | .unimplemented0x94 => 0x94#8
  | .unimplemented0x95 => 0x95#8
  | .unimplemented0x96 => 0x96#8
  | .unimplemented0x97 => 0x97#8
  | .unimplemented0x98 => 0x98#8
  | .unimplemented0x99 => 0x99#8
  | .unimplemented0x9A => 0x9A#8
  | .unimplemented0x9B => 0x9B#8
  | .unimplemented0x9C => 0x9C#8
  | .unimplemented0x9D => 0x9D#8
  | .unimplemented0x9E => 0x9E#8
  | .unimplemented0x9F => 0x9F#8
  | .unimplemented0xA0 => 0xA0#8
  | .unimplemented0xA1 => 0xA1#8
  | .unimplemented0xA2 => 0xA2#8
  | .unimplemented0xA3 => 0xA3#8
  | .unimplemented0xA4 => 0xA4#8
  | .unimplemented0xA5 => 0xA5#8
  | .unimplemented0xA6 => 0xA6#8
  | .unimplemented0xA7 => 0xA7#8
  | .unimplemented0xA8 => 0xA8#8
  | .unimplemented0xA9 => 0xA9#8
  | .unimplemented0xAA => 0xAA#8
  | .unimplemented0xAB => 0xAB#8
  | .unimplemented0xAC => 0xAC#8
  | .unimplemented0xAD => 0xAD#8
  | .unimplemented0xAE => 0xAE#8
  | .unimplemented0xAF => 0xAF#8
  | .unimplemented0xB0 => 0xB0#8
  | .unimplemented0xB1 => 0xB1#8
  | .unimplemented0xB2 => 0xB2#8
  | .unimplemented0xB3 => 0xB3#8
  | .unimplemented0xB4 => 0xB4#8
  | .unimplemented0xB5 => 0xB5#8
  | .unimplemented0xB6 => 0xB6#8
  | .unimplemented0xB7 => 0xB7#8
  | .unimplemented0xB8 => 0xB8#8
  | .unimplemented0xB9 => 0xB9#8
  | .unimplemented0xBA => 0xBA#8
  | .unimplemented0xBB => 0xBB#8
  | .unimplemented0xBC => 0xBC#8
  | .unimplemented0xBD => 0xBD#8
  | .unimplemented0xBE => 0xBE#8
  | .unimplemented0xBF => 0xBF#8
  | .unimplemented0xC0 => 0xC0#8
  | .unimplemented0xC1 => 0xC1#8
  | .unimplemented0xC2 => 0xC2#8
  | .unimplemented0xC3 => 0xC3#8
  | .unimplemented0xC4 => 0xC4#8
  | .unimplemented0xC5 => 0xC5#8
  | .adi _ => 0xC6#8
  | .unimplemented0xC7 => 0xC7#8
  | .unimplemented0xC8 => 0xC8#8
  | .unimplemented0xC9 => 0xC9#8
  | .unimplemented0xCA => 0xCA#8
  | .unimplemented0xCB => 0xCB#8
  | .unimplemented0xCC => 0xCC#8
  | .unimplemented0xCD => 0xCD#8
  | .unimplemented0xCE => 0xCE#8
  | .unimplemented0xCF => 0xCF#8
  | .unimplemented0xD0 => 0xD0#8
  | .unimplemented0xD1 => 0xD1#8
  | .unimplemented0xD2 => 0xD2#8
  | .unimplemented0xD3 => 0xD3#8
  | .unimplemented0xD4 => 0xD4#8
  | .unimplemented0xD5 => 0xD5#8
  | .unimplemented0xD6 => 0xD6#8
  | .unimplemented0xD7 => 0xD7#8
  | .unimplemented0xD8 => 0xD8#8
  | .unimplemented0xD9 => 0xD9#8
  | .unimplemented0xDA => 0xDA#8
  | .unimplemented0xDB => 0xDB#8
  | .unimplemented0xDC => 0xDC#8
  | .unimplemented0xDD => 0xDD#8
  | .unimplemented0xDE => 0xDE#8
  | .unimplemented0xDF => 0xDF#8
  | .unimplemented0xE0 => 0xE0#8
  | .unimplemented0xE1 => 0xE1#8
  | .unimplemented0xE2 => 0xE2#8
  | .unimplemented0xE3 => 0xE3#8
  | .unimplemented0xE4 => 0xE4#8
  | .unimplemented0xE5 => 0xE5#8
  | .unimplemented0xE6 => 0xE6#8
  | .unimplemented0xE7 => 0xE7#8
  | .unimplemented0xE8 => 0xE8#8
  | .unimplemented0xE9 => 0xE9#8
  | .unimplemented0xEA => 0xEA#8
  | .unimplemented0xEB => 0xEB#8
  | .unimplemented0xEC => 0xEC#8
  | .unimplemented0xED => 0xED#8
  | .unimplemented0xEE => 0xEE#8
  | .unimplemented0xEF => 0xEF#8
  | .unimplemented0xF0 => 0xF0#8
  | .unimplemented0xF1 => 0xF1#8
  | .unimplemented0xF2 => 0xF2#8
  | .unimplemented0xF3 => 0xF3#8
  | .unimplemented0xF4 => 0xF4#8
  | .unimplemented0xF5 => 0xF5#8
  | .unimplemented0xF6 => 0xF6#8
  | .unimplemented0xF7 => 0xF7#8
  | .unimplemented0xF8 => 0xF8#8
  | .unimplemented0xF9 => 0xF9#8
  | .unimplemented0xFA => 0xFA#8
  | .unimplemented0xFB => 0xFB#8
  | .unimplemented0xFC => 0xFC#8
  | .unimplemented0xFD => 0xFD#8
  | .unimplemented0xFE => 0xFE#8
  | .unimplemented0xFF => 0xFF#8

/-- The operand bytes of an instruction, in the order they follow the opcode: for a word, the low
byte first (R50, R56). -/
def Instr.operands : Instr → List Byte
  | .mviB d8 => [d8]
  | .mviC d8 => [d8]
  | .mviD d8 => [d8]
  | .mviE d8 => [d8]
  | .mviH d8 => [d8]
  | .mviL d8 => [d8]
  | .mviA d8 => [d8]
  | .adi d8 => [d8]
  | .lxiB d16 => [loByte d16, hiByte d16]
  | .lxiD d16 => [loByte d16, hiByte d16]
  | .lxiH d16 => [loByte d16, hiByte d16]
  | .lxiSP d16 => [loByte d16, hiByte d16]
  | .sta a16 => [loByte a16, hiByte a16]
  | .nop | .unimplemented0x02 | .unimplemented0x03 | .unimplemented0x04 | .unimplemented0x05
  | .unimplemented0x07 | .unimplemented0x08 | .unimplemented0x09 | .unimplemented0x0A | .unimplemented0x0B
  | .unimplemented0x0C | .unimplemented0x0D | .unimplemented0x0F | .unimplemented0x10 | .unimplemented0x12
  | .unimplemented0x13 | .unimplemented0x14 | .unimplemented0x15 | .unimplemented0x17 | .unimplemented0x18
  | .unimplemented0x19 | .unimplemented0x1A | .unimplemented0x1B | .unimplemented0x1C | .unimplemented0x1D
  | .unimplemented0x1F | .unimplemented0x20 | .unimplemented0x22 | .unimplemented0x23 | .unimplemented0x24
  | .unimplemented0x25 | .unimplemented0x27 | .unimplemented0x28 | .unimplemented0x29 | .unimplemented0x2A
  | .unimplemented0x2B | .unimplemented0x2C | .unimplemented0x2D | .unimplemented0x2F | .unimplemented0x30
  | .unimplemented0x33 | .unimplemented0x34 | .unimplemented0x35 | .unimplemented0x36 | .unimplemented0x37
  | .unimplemented0x38 | .unimplemented0x39 | .unimplemented0x3A | .unimplemented0x3B | .unimplemented0x3C
  | .unimplemented0x3D | .unimplemented0x3F | .unimplemented0x40 | .unimplemented0x41 | .unimplemented0x42
  | .unimplemented0x43 | .unimplemented0x44 | .unimplemented0x45 | .unimplemented0x46 | .unimplemented0x47
  | .unimplemented0x48 | .unimplemented0x49 | .unimplemented0x4A | .unimplemented0x4B | .unimplemented0x4C
  | .unimplemented0x4D | .unimplemented0x4E | .unimplemented0x4F | .unimplemented0x50 | .unimplemented0x51
  | .unimplemented0x52 | .unimplemented0x53 | .unimplemented0x54 | .unimplemented0x55 | .unimplemented0x56
  | .unimplemented0x57 | .unimplemented0x58 | .unimplemented0x59 | .unimplemented0x5A | .unimplemented0x5B
  | .unimplemented0x5C | .unimplemented0x5D | .unimplemented0x5E | .unimplemented0x5F | .unimplemented0x60
  | .unimplemented0x61 | .unimplemented0x62 | .unimplemented0x63 | .unimplemented0x64 | .unimplemented0x65
  | .unimplemented0x66 | .unimplemented0x67 | .unimplemented0x68 | .unimplemented0x69 | .unimplemented0x6A
  | .unimplemented0x6B | .unimplemented0x6C | .unimplemented0x6D | .unimplemented0x6E | .unimplemented0x6F
  | .unimplemented0x70 | .unimplemented0x71 | .unimplemented0x72 | .unimplemented0x73 | .unimplemented0x74
  | .unimplemented0x75 | .hlt | .unimplemented0x77 | .movAB | .movAC
  | .movAD | .movAE | .movAH | .movAL | .movAM
  | .movAA | .addB | .addC | .addD | .addE
  | .addH | .addL | .addM | .addA | .unimplemented0x88
  | .unimplemented0x89 | .unimplemented0x8A | .unimplemented0x8B | .unimplemented0x8C | .unimplemented0x8D
  | .unimplemented0x8E | .unimplemented0x8F | .unimplemented0x90 | .unimplemented0x91 | .unimplemented0x92
  | .unimplemented0x93 | .unimplemented0x94 | .unimplemented0x95 | .unimplemented0x96 | .unimplemented0x97
  | .unimplemented0x98 | .unimplemented0x99 | .unimplemented0x9A | .unimplemented0x9B | .unimplemented0x9C
  | .unimplemented0x9D | .unimplemented0x9E | .unimplemented0x9F | .unimplemented0xA0 | .unimplemented0xA1
  | .unimplemented0xA2 | .unimplemented0xA3 | .unimplemented0xA4 | .unimplemented0xA5 | .unimplemented0xA6
  | .unimplemented0xA7 | .unimplemented0xA8 | .unimplemented0xA9 | .unimplemented0xAA | .unimplemented0xAB
  | .unimplemented0xAC | .unimplemented0xAD | .unimplemented0xAE | .unimplemented0xAF | .unimplemented0xB0
  | .unimplemented0xB1 | .unimplemented0xB2 | .unimplemented0xB3 | .unimplemented0xB4 | .unimplemented0xB5
  | .unimplemented0xB6 | .unimplemented0xB7 | .unimplemented0xB8 | .unimplemented0xB9 | .unimplemented0xBA
  | .unimplemented0xBB | .unimplemented0xBC | .unimplemented0xBD | .unimplemented0xBE | .unimplemented0xBF
  | .unimplemented0xC0 | .unimplemented0xC1 | .unimplemented0xC2 | .unimplemented0xC3 | .unimplemented0xC4
  | .unimplemented0xC5 | .unimplemented0xC7 | .unimplemented0xC8 | .unimplemented0xC9 | .unimplemented0xCA
  | .unimplemented0xCB | .unimplemented0xCC | .unimplemented0xCD | .unimplemented0xCE | .unimplemented0xCF
  | .unimplemented0xD0 | .unimplemented0xD1 | .unimplemented0xD2 | .unimplemented0xD3 | .unimplemented0xD4
  | .unimplemented0xD5 | .unimplemented0xD6 | .unimplemented0xD7 | .unimplemented0xD8 | .unimplemented0xD9
  | .unimplemented0xDA | .unimplemented0xDB | .unimplemented0xDC | .unimplemented0xDD | .unimplemented0xDE
  | .unimplemented0xDF | .unimplemented0xE0 | .unimplemented0xE1 | .unimplemented0xE2 | .unimplemented0xE3
  | .unimplemented0xE4 | .unimplemented0xE5 | .unimplemented0xE6 | .unimplemented0xE7 | .unimplemented0xE8
  | .unimplemented0xE9 | .unimplemented0xEA | .unimplemented0xEB | .unimplemented0xEC | .unimplemented0xED
  | .unimplemented0xEE | .unimplemented0xEF | .unimplemented0xF0 | .unimplemented0xF1 | .unimplemented0xF2
  | .unimplemented0xF3 | .unimplemented0xF4 | .unimplemented0xF5 | .unimplemented0xF6 | .unimplemented0xF7
  | .unimplemented0xF8 | .unimplemented0xF9 | .unimplemented0xFA | .unimplemented0xFB | .unimplemented0xFC
  | .unimplemented0xFD | .unimplemented0xFE | .unimplemented0xFF => []

/-- The length in bytes: 1, 2 or 3 (R50). -/
def Instr.length (i : Instr) : Nat := 1 + i.operands.length

/-- The bytes of an instruction, in ascending address order. -/
def encode (i : Instr) : List Byte := i.opcode :: i.operands

/-! ### The host's numbering of an instruction's bits -/

/-- The bytes of a table word: bit 0 of `w` is bit 0 of the first byte, a later byte's bits count on
from it; the bits above `nbits` are 0; three bytes, the longest instruction (R50). -/
def tableWordBytes (nbits w : Nat) : List Byte :=
  let v := w % 2 ^ nbits
  [BitVec.ofNat 8 v, BitVec.ofNat 8 (v / 256), BitVec.ofNat 8 (v / 65536)]

/-- What the decoder reads from a table word. -/
def decodeTableWord (nbits w : Nat) : Option Instr :=
  match decode (tableWordBytes nbits w) with
  | .ok (i, _) => some i
  | .error _ => none

end Sys2Proof
end

