-- ==== Sys2Proof/Machine/Ops.lean ====
section
/-! DEFINITION. The shared operations: memory, registers and pairs, fetching, and the report that ends a
step. There is no operation that takes an exception and none that returns from one: the CORE has no
trap entry (60_exceptions.md R103) and no trap return (R105). -/

namespace Sys2Proof.Machine

/-! ### Memory (20_memory.md R30, R31) -/

/-- What a cell that the list does not name reads as: memory is "created once, zero-initialized"
(70_reset_and_hazards.md R120). -/
def Memory.unlisted : Byte := 0x00#8

/-- The byte listed for address number `n`. -/
def Memory.lookup : Memory → Nat → Byte
  | [], _ => Memory.unlisted
  | (k, v) :: rest, n => if k = n then v else Memory.lookup rest n

/-- `MemRead(a, 1)` (R31). Every address has a cell (R30); reading changes nothing. -/
def Memory.read (m : Memory) (a : Addr) : Byte := Memory.lookup m a.toNat

/-- Forget what is listed for address number `n`. -/
def Memory.erase (m : Memory) (n : Nat) : Memory := m.filter (fun cell => cell.1 != n)

/-- Put an entry at its place in the rising order of addresses. -/
def Memory.insert : Memory → Nat → Byte → Memory
  | [], n, v => [(n, v)]
  | (k, w) :: rest, n, v =>
    if n < k then (n, v) :: (k, w) :: rest else (k, w) :: Memory.insert rest n v

/-- `MemWrite(a, 1, v)` (R31): the one cell `a` becomes `v`. Writing the value an unlisted cell reads
as removes the entry, so that equal memories are equal lists. -/
def Memory.write (m : Memory) (a : Addr) (v : Byte) : Memory :=
  if v = Memory.unlisted then m.erase a.toNat else (m.erase a.toNat).insert a.toNat v

/-- The canonical form: addresses strictly rising, each below 65536, no entry equal to what an
unlisted cell reads as. -/
abbrev Memory.wf (m : Memory) : Prop :=
  m.Pairwise (fun x y => x.1 < y.1) ∧
    ∀ cell ∈ m, cell.1 < Config.memorySize ∧ cell.2 ≠ Memory.unlisted

/-- Bytes placed at ascending addresses from `a`, modulo 65536, as a loader does (30_encoding.md R62). -/
def Memory.load (m : Memory) (a : Addr) : List Byte → Memory
  | [] => m
  | v :: rest => Memory.load (m.write a v) (a + 1#16) rest

/-- The cells of `IMAGE` at the address numbers below `n` that are not what an unlisted cell reads as. -/
@[irreducible] def Memory.cellsBelow (n : Nat) (image : Addr → Byte) : Memory :=
  ((List.range n).map (fun k => (k, image (BitVec.ofNat 16 k)))).filter
    (fun cell => cell.2 != Memory.unlisted)

/-- The memory that holds `IMAGE` (10_state.md R22). -/
def Memory.ofImage (image : Addr → Byte) : Memory := Memory.cellsBelow Config.memorySize image

/-- The state at the first step with `IMAGE` in memory (R22, R26, R120). -/
def State.boot (image : Addr → Byte) : State :=
  { State.reset with mem := Memory.ofImage image }

/-! ### Registers and pairs (10_state.md R11, R12) -/

/-- `r[X]` for a general register. -/
def State.getReg (s : State) : Reg8 → Byte
  | .A => s.a
  | .B => s.b
  | .C => s.c
  | .D => s.d
  | .E => s.e
  | .H => s.h
  | .L => s.l

/-- `r[X] <- v` for a general register: every write succeeds (R11, R27). -/
def State.setReg (s : State) (r : Reg8) (v : Byte) : State :=
  match r with
  | .A => { s with a := v }
  | .B => { s with b := v }
  | .C => { s with c := v }
  | .D => { s with d := v }
  | .E => { s with e := v }
  | .H => { s with h := v }
  | .L => { s with l := v }

/-- The half that holds bits 15:8 of a pair. -/
def RegPair.high : RegPair → Reg8
  | .BC => .B
  | .DE => .D
  | .HL => .H

/-- The half that holds bits 7:0 of a pair. -/
def RegPair.low : RegPair → Reg8
  | .BC => .C
  | .DE => .E
  | .HL => .L

/-- The pair's value `r[high]*256 + r[low]`, computed from its halves (R12). -/
def State.getPair (s : State) (p : RegPair) : Word :=
  wordOfBytes (s.getReg (RegPair.high p)) (s.getReg (RegPair.low p))

/-- Writing a pair writes its two halves (R12). -/
def State.setPair (s : State) (p : RegPair) (w : Word) : State :=
  (s.setReg (RegPair.high p) (hiByte w)).setReg (RegPair.low p) (loByte w)

/-- `sp <- w` (10_state.md R17). -/
def State.setSp (s : State) (w : Word) : State := { s with sp := w }

/-! ### Memory accesses of the machine (20_memory.md R34) -/

/-- Read one byte of the machine's memory. -/
def State.readByte (s : State) (a : Addr) : Byte := s.mem.read a

/-- Write one byte of the machine's memory. -/
def State.writeByte (s : State) (a : Addr) (v : Byte) : State := { s with mem := s.mem.write a v }

/-! ### Fetching (00_scope.md R8, 42_machine_control.md R90) -/

/-- `Fetch8()`: the byte at PC, and PC advanced by 1 modulo 65536 (R8, R16). -/
def State.fetch8 (s : State) : Byte × State := (s.readByte s.pc, { s with pc := s.pc + 1#16 })

/-- Fetch and decode one instruction: byte 0, then exactly the operand bytes of its format, low byte
first (R34, R50, R90). PC then holds the address after the instruction's last byte (R15). -/
def State.fetchInstr (s : State) : Instr × State :=
  let (op, s1) := s.fetch8
  match formatOfOpcode op with
  | .F0 => (instrOfBytes op 0x00#8 0x00#8, s1)
  | .F1 =>
    let (d8, s2) := s1.fetch8
    (instrOfBytes op d8 0x00#8, s2)
  | .F2 =>
    let (lo, s2) := s1.fetch8
    let (hi, s3) := s2.fetch8
    (instrOfBytes op lo hi, s3)

/-! ### The report that ends a step (42_machine_control.md R90, 60_exceptions.md R108) -/

/-- The identity of a step: EXECUTED(inst) or UNIMPLEMENTED(op) (R94, R102, R108). -/
def reportOf (i : Instr) : Report :=
  if i.isUnimplemented then .unimplemented i.opcode else .executed i

/-- The bytes of a memory window: `MemRead(base + i, 1)` for i below the length, modulo 65536. -/
def State.windowBytes (s : State) (w : TraceWindow) : List Byte :=
  (List.range w.length).map (fun i => s.readByte (w.base + BitVec.ofNat 16 i))

/-- The snapshot of a state, for a given window (R108). -/
def State.snapshot (s : State) (w : TraceWindow) (what : Report) : Snapshot where
  seq    := s.count
  what   := what
  a      := s.a
  b      := s.b
  c      := s.c
  d      := s.d
  e      := s.e
  h      := s.h
  l      := s.l
  f      := s.f
  pc     := s.pc
  sp     := s.sp
  window := s.windowBytes w

/-- `count <- count + 1` (10_state.md R20). -/
def State.incrementCount (s : State) : State := { s with count := s.count + 1 }

/-- `Emit(snapshot)`: cannot fail and changes nothing but the port's output (R108). -/
def State.emit (s : State) (what : Report) : State :=
  { s with trace := s.snapshot Config.traceWindow what :: s.trace }

/-- The end of a step: the count is incremented and then the snapshot is emitted (R20, R90). -/
def State.report (s : State) (i : Instr) : State := s.incrementCount.emit (reportOf i)

/-- What stepping a halted machine answers. The CORE "takes no step": no state changes, and this is
the defined end of the run and no error (10_state.md R19, U8; log 4). -/
def haltedStep (s : State) : Host.Outcome State Fault Refusal := .next s

/-- The effect of an instruction that has none: `NOP` (R92) and the unimplemented opcodes (R94). -/
def noEffect (s : State) : Host.Outcome State Fault Refusal := .next s

end Sys2Proof.Machine
end

