-- ==== Sys2Proof/Machine/Operands.lean ====
section
/-! DEFINITION. The operand forms (20_memory.md R42, 30_encoding.md R56): register, memory at HL, immediate
byte. A 16-bit immediate and a direct address are the word the instruction carries. -/

namespace Sys2Proof.Machine

/-- The effective address of the operand `M`: HL as it is when the instruction executes (R42, R43). -/
def State.addrM (s : State) : Addr := s.getPair .HL

/-- The value of a source operand. Reading changes no register and no memory (R42, R46). -/
def State.readSrc (s : State) : Src → Byte
  | .reg r => s.getReg r
  | .mem => s.readByte s.addrM
  | .imm d8 => d8

end Sys2Proof.Machine
end

