-- ==== Sys2Proof/Machine/Arithmetic.lean ====
section
/-! DEFINITION. The accumulator-add family (41_arithmetic.md R81 to R85): the sum modulo 256 goes to A and
UpdateFlags is invoked on it; no carry is recorded. -/

namespace Sys2Proof.Machine

/-- A := (A + operand) mod 256, then UpdateFlags on the new A (R81 to R84). -/
def State.addToA (s : State) (src : Src) : State :=
  let sum := s.getReg .A + s.readSrc src
  (s.setReg .A sum).updateFlags sum

/-- `ADD B` (R81). -/
def execAddB (s : State) : Host.Outcome State Fault Refusal := .next (s.addToA (.reg .B))

/-- `ADD C` (R81). -/
def execAddC (s : State) : Host.Outcome State Fault Refusal := .next (s.addToA (.reg .C))

/-- `ADD D` (R81). -/
def execAddD (s : State) : Host.Outcome State Fault Refusal := .next (s.addToA (.reg .D))

/-- `ADD E` (R81). -/
def execAddE (s : State) : Host.Outcome State Fault Refusal := .next (s.addToA (.reg .E))

/-- `ADD H` (R81). -/
def execAddH (s : State) : Host.Outcome State Fault Refusal := .next (s.addToA (.reg .H))

/-- `ADD L` (R81). -/
def execAddL (s : State) : Host.Outcome State Fault Refusal := .next (s.addToA (.reg .L))

/-- `ADD A` (R81). -/
def execAddA (s : State) : Host.Outcome State Fault Refusal := .next (s.addToA (.reg .A))

/-- `ADD M` (R82). -/
def execAddM (s : State) : Host.Outcome State Fault Refusal := .next (s.addToA .mem)

/-- `ADI d8` (R83). -/
def execAdi (d8 : Byte) (s : State) : Host.Outcome State Fault Refusal := .next (s.addToA (.imm d8))

end Sys2Proof.Machine
end

