-- ==== Sys2Proof/Machine/Control.lean ====
section
/-! DEFINITION. Machine control (42_machine_control.md R92, R93): no-operation and halt. -/

namespace Sys2Proof.Machine

/-- `NOP` (R92): no effect; the fetch has advanced PC. -/
def execNop (s : State) : Host.Outcome State Fault Refusal := noEffect s

/-- `HLT` (R93): the halted bit is set; the step still counts and reports. -/
def execHlt (s : State) : Host.Outcome State Fault Refusal := .next { s with halted := true }

end Sys2Proof.Machine
end

