-- ==== Sys2Proof/Machine/DataTransfer.lean ====
section
/-! DEFINITION. Data transfer (40_data_transfer.md R70 to R75): moves into A, immediate loads, and the
direct store. None of them writes F (R14). PC has already been advanced past the instruction (R15). -/

namespace Sys2Proof.Machine

/-- Move a source operand into A (R70, R71). -/
def State.moveToA (s : State) (src : Src) : State := s.setReg .A (s.readSrc src)

/-- `MOV A,B` (R70). -/
def execMovAB (s : State) : Host.Outcome State Fault Refusal := .next (s.moveToA (.reg .B))

/-- `MOV A,C` (R70). -/
def execMovAC (s : State) : Host.Outcome State Fault Refusal := .next (s.moveToA (.reg .C))

/-- `MOV A,D` (R70). -/
def execMovAD (s : State) : Host.Outcome State Fault Refusal := .next (s.moveToA (.reg .D))

/-- `MOV A,E` (R70). -/
def execMovAE (s : State) : Host.Outcome State Fault Refusal := .next (s.moveToA (.reg .E))

/-- `MOV A,H` (R70). -/
def execMovAH (s : State) : Host.Outcome State Fault Refusal := .next (s.moveToA (.reg .H))

/-- `MOV A,L` (R70). -/
def execMovAL (s : State) : Host.Outcome State Fault Refusal := .next (s.moveToA (.reg .L))

/-- `MOV A,A` (R70). -/
def execMovAA (s : State) : Host.Outcome State Fault Refusal := .next (s.moveToA (.reg .A))

/-- `MOV A,M` (R71): A from the byte at HL, with H and L as they are now. -/
def execMovAM (s : State) : Host.Outcome State Fault Refusal := .next (s.moveToA .mem)

/-- `MVI B,d8` (R72). -/
def execMviB (d8 : Byte) (s : State) : Host.Outcome State Fault Refusal := .next (s.setReg .B d8)

/-- `MVI C,d8` (R72). -/
def execMviC (d8 : Byte) (s : State) : Host.Outcome State Fault Refusal := .next (s.setReg .C d8)

/-- `MVI D,d8` (R72). -/
def execMviD (d8 : Byte) (s : State) : Host.Outcome State Fault Refusal := .next (s.setReg .D d8)

/-- `MVI E,d8` (R72). -/
def execMviE (d8 : Byte) (s : State) : Host.Outcome State Fault Refusal := .next (s.setReg .E d8)

/-- `MVI H,d8` (R72). -/
def execMviH (d8 : Byte) (s : State) : Host.Outcome State Fault Refusal := .next (s.setReg .H d8)

/-- `MVI L,d8` (R72). -/
def execMviL (d8 : Byte) (s : State) : Host.Outcome State Fault Refusal := .next (s.setReg .L d8)

/-- `MVI A,d8` (R72). -/
def execMviA (d8 : Byte) (s : State) : Host.Outcome State Fault Refusal := .next (s.setReg .A d8)

/-- `LXI B,d16` (R73): the high register of BC receives the second operand byte, the low one the first. -/
def execLxiB (d16 : Word) (s : State) : Host.Outcome State Fault Refusal := .next (s.setPair .BC d16)

/-- `LXI D,d16` (R73): the high register of DE receives the second operand byte, the low one the first. -/
def execLxiD (d16 : Word) (s : State) : Host.Outcome State Fault Refusal := .next (s.setPair .DE d16)

/-- `LXI H,d16` (R73): the high register of HL receives the second operand byte, the low one the first. -/
def execLxiH (d16 : Word) (s : State) : Host.Outcome State Fault Refusal := .next (s.setPair .HL d16)

/-- `LXI SP,d16` (R74). -/
def execLxiSP (d16 : Word) (s : State) : Host.Outcome State Fault Refusal := .next (s.setSp d16)

/-- `STA a16` (R75): the cell at the address the instruction carries becomes A. -/
def execSta (a16 : Addr) (s : State) : Host.Outcome State Fault Refusal := .next (s.writeByte a16 (s.getReg .A))

end Sys2Proof.Machine
end

