-- ==== Sys2Proof/Machine/Unimplemented.lean ====
section
/-! DEFINITION. The 225 unimplemented opcodes (30_encoding.md R57, 42_machine_control.md R94): each is
a one-byte no-op with a meaning of its own over the one shared operation `noEffect`. The mark
UNIMPLEMENTED(op) in the snapshot is `reportOf` (Ops.lean). -/

namespace Sys2Proof.Machine

/-- UNIMPLEMENTED(0x02) (R94). -/
def execUnimplemented0x02 (s : State) : Host.Outcome State Fault Refusal := noEffect s
/-- UNIMPLEMENTED(0x03) (R94). -/
def execUnimplemented0x03 (s : State) : Host.Outcome State Fault Refusal := noEffect s
/-- UNIMPLEMENTED(0x04) (R94). -/
def execUnimplemented0x04 (s : State) : Host.Outcome State Fault Refusal := noEffect s
/-- UNIMPLEMENTED(0x05) (R94). -/
def execUnimplemented0x05 (s : State) : Host.Outcome State Fault Refusal := noEffect s
/-- UNIMPLEMENTED(0x07) (R94). -/
def execUnimplemented0x07 (s : State) : Host.Outcome State Fault Refusal := noEffect s
/-- UNIMPLEMENTED(0x08) (R94). -/
def execUnimplemented0x08 (s : State) : Host.Outcome State Fault Refusal := noEffect s
/-- UNIMPLEMENTED(0x09) (R94). -/
def execUnimplemented0x09 (s : State) : Host.Outcome State Fault Refusal := noEffect s
/-- UNIMPLEMENTED(0x0A) (R94). -/
def execUnimplemented0x0A (s : State) : Host.Outcome State Fault Refusal := noEffect s
/-- UNIMPLEMENTED(0x0B) (R94). -/
def execUnimplemented0x0B (s : State) : Host.Outcome State Fault Refusal := noEffect s
/-- UNIMPLEMENTED(0x0C) (R94). -/
def execUnimplemented0x0C (s : State) : Host.Outcome State Fault Refusal := noEffect s
/-- UNIMPLEMENTED(0x0D) (R94). -/
def execUnimplemented0x0D (s : State) : Host.Outcome State Fault Refusal := noEffect s
/-- UNIMPLEMENTED(0x0F) (R94). -/
def execUnimplemented0x0F (s : State) : Host.Outcome State Fault Refusal := noEffect s
/-- UNIMPLEMENTED(0x10) (R94). -/
def execUnimplemented0x10 (s : State) : Host.Outcome State Fault Refusal := noEffect s
/-- UNIMPLEMENTED(0x12) (R94). -/
def execUnimplemented0x12 (s : State) : Host.Outcome State Fault Refusal := noEffect s
/-- UNIMPLEMENTED(0x13) (R94). -/
def execUnimplemented0x13 (s : State) : Host.Outcome State Fault Refusal := noEffect s
/-- UNIMPLEMENTED(0x14) (R94). -/
def execUnimplemented0x14 (s : State) : Host.Outcome State Fault Refusal := noEffect s
/-- UNIMPLEMENTED(0x15) (R94). -/
def execUnimplemented0x15 (s : State) : Host.Outcome State Fault Refusal := noEffect s
/-- UNIMPLEMENTED(0x17) (R94). -/
def execUnimplemented0x17 (s : State) : Host.Outcome State Fault Refusal := noEffect s
/-- UNIMPLEMENTED(0x18) (R94). -/
def execUnimplemented0x18 (s : State) : Host.Outcome State Fault Refusal := noEffect s
/-- UNIMPLEMENTED(0x19) (R94). -/
def execUnimplemented0x19 (s : State) : Host.Outcome State Fault Refusal := noEffect s
/-- UNIMPLEMENTED(0x1A) (R94). -/
def execUnimplemented0x1A (s : State) : Host.Outcome State Fault Refusal := noEffect s
/-- UNIMPLEMENTED(0x1B) (R94). -/
def execUnimplemented0x1B (s : State) : Host.Outcome State Fault Refusal := noEffect s
/-- UNIMPLEMENTED(0x1C) (R94). -/
def execUnimplemented0x1C (s : State) : Host.Outcome State Fault Refusal := noEffect s
/-- UNIMPLEMENTED(0x1D) (R94). -/
def execUnimplemented0x1D (s : State) : Host.Outcome State Fault Refusal := noEffect s
/-- UNIMPLEMENTED(0x1F) (R94). -/
def execUnimplemented0x1F (s : State) : Host.Outcome State Fault Refusal := noEffect s
/-- UNIMPLEMENTED(0x20) (R94). -/
def execUnimplemented0x20 (s : State) : Host.Outcome State Fault Refusal := noEffect s
/-- UNIMPLEMENTED(0x22) (R94). -/
def execUnimplemented0x22 (s : State) : Host.Outcome State Fault Refusal := noEffect s
/-- UNIMPLEMENTED(0x23) (R94). -/
def execUnimplemented0x23 (s : State) : Host.Outcome State Fault Refusal := noEffect s
/-- UNIMPLEMENTED(0x24) (R94). -/
def execUnimplemented0x24 (s : State) : Host.Outcome State Fault Refusal := noEffect s
/-- UNIMPLEMENTED(0x25) (R94). -/
def execUnimplemented0x25 (s : State) : Host.Outcome State Fault Refusal := noEffect s
/-- UNIMPLEMENTED(0x27) (R94). -/
def execUnimplemented0x27 (s : State) : Host.Outcome State Fault Refusal := noEffect s
/-- UNIMPLEMENTED(0x28) (R94). -/
def execUnimplemented0x28 (s : State) : Host.Outcome State Fault Refusal := noEffect s
/-- UNIMPLEMENTED(0x29) (R94). -/
def execUnimplemented0x29 (s : State) : Host.Outcome State Fault Refusal := noEffect s
/-- UNIMPLEMENTED(0x2A) (R94). -/
def execUnimplemented0x2A (s : State) : Host.Outcome State Fault Refusal := noEffect s
/-- UNIMPLEMENTED(0x2B) (R94). -/
def execUnimplemented0x2B (s : State) : Host.Outcome State Fault Refusal := noEffect s
/-- UNIMPLEMENTED(0x2C) (R94). -/
def execUnimplemented0x2C (s : State) : Host.Outcome State Fault Refusal := noEffect s
/-- UNIMPLEMENTED(0x2D) (R94). -/
def execUnimplemented0x2D (s : State) : Host.Outcome State Fault Refusal := noEffect s
/-- UNIMPLEMENTED(0x2F) (R94). -/
def execUnimplemented0x2F (s : State) : Host.Outcome State Fault Refusal := noEffect s
/-- UNIMPLEMENTED(0x30) (R94). -/
def execUnimplemented0x30 (s : State) : Host.Outcome State Fault Refusal := noEffect s
/-- UNIMPLEMENTED(0x33) (R94). -/
def execUnimplemented0x33 (s : State) : Host.Outcome State Fault Refusal := noEffect s
/-- UNIMPLEMENTED(0x34) (R94). -/
def execUnimplemented0x34 (s : State) : Host.Outcome State Fault Refusal := noEffect s
/-- UNIMPLEMENTED(0x35) (R94). -/
def execUnimplemented0x35 (s : State) : Host.Outcome State Fault Refusal := noEffect s
/-- UNIMPLEMENTED(0x36) (R94). -/
def execUnimplemented0x36 (s : State) : Host.Outcome State Fault Refusal := noEffect s
/-- UNIMPLEMENTED(0x37) (R94). -/
def execUnimplemented0x37 (s : State) : Host.Outcome State Fault Refusal := noEffect s
/-- UNIMPLEMENTED(0x38) (R94). -/
def execUnimplemented0x38 (s : State) : Host.Outcome State Fault Refusal := noEffect s
/-- UNIMPLEMENTED(0x39) (R94). -/
def execUnimplemented0x39 (s : State) : Host.Outcome State Fault Refusal := noEffect s
/-- UNIMPLEMENTED(0x3A) (R94). -/
def execUnimplemented0x3A (s : State) : Host.Outcome State Fault Refusal := noEffect s
/-- UNIMPLEMENTED(0x3B) (R94). -/
def execUnimplemented0x3B (s : State) : Host.Outcome State Fault Refusal := noEffect s
/-- UNIMPLEMENTED(0x3C) (R94). -/
def execUnimplemented0x3C (s : State) : Host.Outcome State Fault Refusal := noEffect s
/-- UNIMPLEMENTED(0x3D) (R94). -/
def execUnimplemented0x3D (s : State) : Host.Outcome State Fault Refusal := noEffect s
/-- UNIMPLEMENTED(0x3F) (R94). -/
def execUnimplemented0x3F (s : State) : Host.Outcome State Fault Refusal := noEffect s
/-- UNIMPLEMENTED(0x40) (R94). -/
def execUnimplemented0x40 (s : State) : Host.Outcome State Fault Refusal := noEffect s
/-- UNIMPLEMENTED(0x41) (R94). -/
def execUnimplemented0x41 (s : State) : Host.Outcome State Fault Refusal := noEffect s
/-- UNIMPLEMENTED(0x42) (R94). -/
def execUnimplemented0x42 (s : State) : Host.Outcome State Fault Refusal := noEffect s
/-- UNIMPLEMENTED(0x43) (R94). -/
def execUnimplemented0x43 (s : State) : Host.Outcome State Fault Refusal := noEffect s
/-- UNIMPLEMENTED(0x44) (R94). -/
def execUnimplemented0x44 (s : State) : Host.Outcome State Fault Refusal := noEffect s
/-- UNIMPLEMENTED(0x45) (R94). -/
def execUnimplemented0x45 (s : State) : Host.Outcome State Fault Refusal := noEffect s
/-- UNIMPLEMENTED(0x46) (R94). -/
def execUnimplemented0x46 (s : State) : Host.Outcome State Fault Refusal := noEffect s
/-- UNIMPLEMENTED(0x47) (R94). -/
def execUnimplemented0x47 (s : State) : Host.Outcome State Fault Refusal := noEffect s
/-- UNIMPLEMENTED(0x48) (R94). -/
def execUnimplemented0x48 (s : State) : Host.Outcome State Fault Refusal := noEffect s
/-- UNIMPLEMENTED(0x49) (R94). -/
def execUnimplemented0x49 (s : State) : Host.Outcome State Fault Refusal := noEffect s
/-- UNIMPLEMENTED(0x4A) (R94). -/
def execUnimplemented0x4A (s : State) : Host.Outcome State Fault Refusal := noEffect s
/-- UNIMPLEMENTED(0x4B) (R94). -/
def execUnimplemented0x4B (s : State) : Host.Outcome State Fault Refusal := noEffect s
/-- UNIMPLEMENTED(0x4C) (R94). -/
def execUnimplemented0x4C (s : State) : Host.Outcome State Fault Refusal := noEffect s
/-- UNIMPLEMENTED(0x4D) (R94). -/
def execUnimplemented0x4D (s : State) : Host.Outcome State Fault Refusal := noEffect s
/-- UNIMPLEMENTED(0x4E) (R94). -/
def execUnimplemented0x4E (s : State) : Host.Outcome State Fault Refusal := noEffect s
/-- UNIMPLEMENTED(0x4F) (R94). -/
def execUnimplemented0x4F (s : State) : Host.Outcome State Fault Refusal := noEffect s
/-- UNIMPLEMENTED(0x50) (R94). -/
def execUnimplemented0x50 (s : State) : Host.Outcome State Fault Refusal := noEffect s
/-- UNIMPLEMENTED(0x51) (R94). -/
def execUnimplemented0x51 (s : State) : Host.Outcome State Fault Refusal := noEffect s
/-- UNIMPLEMENTED(0x52) (R94). -/
def execUnimplemented0x52 (s : State) : Host.Outcome State Fault Refusal := noEffect s
/-- UNIMPLEMENTED(0x53) (R94). -/
def execUnimplemented0x53 (s : State) : Host.Outcome State Fault Refusal := noEffect s
/-- UNIMPLEMENTED(0x54) (R94). -/
def execUnimplemented0x54 (s : State) : Host.Outcome State Fault Refusal := noEffect s
/-- UNIMPLEMENTED(0x55) (R94). -/
def execUnimplemented0x55 (s : State) : Host.Outcome State Fault Refusal := noEffect s
/-- UNIMPLEMENTED(0x56) (R94). -/
def execUnimplemented0x56 (s : State) : Host.Outcome State Fault Refusal := noEffect s
/-- UNIMPLEMENTED(0x57) (R94). -/
def execUnimplemented0x57 (s : State) : Host.Outcome State Fault Refusal := noEffect s
/-- UNIMPLEMENTED(0x58) (R94). -/
def execUnimplemented0x58 (s : State) : Host.Outcome State Fault Refusal := noEffect s
/-- UNIMPLEMENTED(0x59) (R94). -/
def execUnimplemented0x59 (s : State) : Host.Outcome State Fault Refusal := noEffect s
/-- UNIMPLEMENTED(0x5A) (R94). -/
def execUnimplemented0x5A (s : State) : Host.Outcome State Fault Refusal := noEffect s
/-- UNIMPLEMENTED(0x5B) (R94). -/
def execUnimplemented0x5B (s : State) : Host.Outcome State Fault Refusal := noEffect s
/-- UNIMPLEMENTED(0x5C) (R94). -/
def execUnimplemented0x5C (s : State) : Host.Outcome State Fault Refusal := noEffect s
/-- UNIMPLEMENTED(0x5D) (R94). -/
def execUnimplemented0x5D (s : State) : Host.Outcome State Fault Refusal := noEffect s
/-- UNIMPLEMENTED(0x5E) (R94). -/
def execUnimplemented0x5E (s : State) : Host.Outcome State Fault Refusal := noEffect s
/-- UNIMPLEMENTED(0x5F) (R94). -/
def execUnimplemented0x5F (s : State) : Host.Outcome State Fault Refusal := noEffect s
/-- UNIMPLEMENTED(0x60) (R94). -/
def execUnimplemented0x60 (s : State) : Host.Outcome State Fault Refusal := noEffect s
/-- UNIMPLEMENTED(0x61) (R94). -/
def execUnimplemented0x61 (s : State) : Host.Outcome State Fault Refusal := noEffect s
/-- UNIMPLEMENTED(0x62) (R94). -/
def execUnimplemented0x62 (s : State) : Host.Outcome State Fault Refusal := noEffect s
/-- UNIMPLEMENTED(0x63) (R94). -/
def execUnimplemented0x63 (s : State) : Host.Outcome State Fault Refusal := noEffect s
/-- UNIMPLEMENTED(0x64) (R94). -/
def execUnimplemented0x64 (s : State) : Host.Outcome State Fault Refusal := noEffect s
/-- UNIMPLEMENTED(0x65) (R94). -/
def execUnimplemented0x65 (s : State) : Host.Outcome State Fault Refusal := noEffect s
/-- UNIMPLEMENTED(0x66) (R94). -/
def execUnimplemented0x66 (s : State) : Host.Outcome State Fault Refusal := noEffect s
/-- UNIMPLEMENTED(0x67) (R94). -/
def execUnimplemented0x67 (s : State) : Host.Outcome State Fault Refusal := noEffect s
/-- UNIMPLEMENTED(0x68) (R94). -/
def execUnimplemented0x68 (s : State) : Host.Outcome State Fault Refusal := noEffect s
/-- UNIMPLEMENTED(0x69) (R94). -/
def execUnimplemented0x69 (s : State) : Host.Outcome State Fault Refusal := noEffect s
/-- UNIMPLEMENTED(0x6A) (R94). -/
def execUnimplemented0x6A (s : State) : Host.Outcome State Fault Refusal := noEffect s
/-- UNIMPLEMENTED(0x6B) (R94). -/
def execUnimplemented0x6B (s : State) : Host.Outcome State Fault Refusal := noEffect s
/-- UNIMPLEMENTED(0x6C) (R94). -/
def execUnimplemented0x6C (s : State) : Host.Outcome State Fault Refusal := noEffect s
/-- UNIMPLEMENTED(0x6D) (R94). -/
def execUnimplemented0x6D (s : State) : Host.Outcome State Fault Refusal := noEffect s
/-- UNIMPLEMENTED(0x6E) (R94). -/
def execUnimplemented0x6E (s : State) : Host.Outcome State Fault Refusal := noEffect s
/-- UNIMPLEMENTED(0x6F) (R94). -/
def execUnimplemented0x6F (s : State) : Host.Outcome State Fault Refusal := noEffect s
/-- UNIMPLEMENTED(0x70) (R94). -/
def execUnimplemented0x70 (s : State) : Host.Outcome State Fault Refusal := noEffect s
/-- UNIMPLEMENTED(0x71) (R94). -/
def execUnimplemented0x71 (s : State) : Host.Outcome State Fault Refusal := noEffect s
/-- UNIMPLEMENTED(0x72) (R94). -/
def execUnimplemented0x72 (s : State) : Host.Outcome State Fault Refusal := noEffect s
/-- UNIMPLEMENTED(0x73) (R94). -/
def execUnimplemented0x73 (s : State) : Host.Outcome State Fault Refusal := noEffect s
/-- UNIMPLEMENTED(0x74) (R94). -/
def execUnimplemented0x74 (s : State) : Host.Outcome State Fault Refusal := noEffect s
/-- UNIMPLEMENTED(0x75) (R94). -/
def execUnimplemented0x75 (s : State) : Host.Outcome State Fault Refusal := noEffect s
/-- UNIMPLEMENTED(0x77) (R94). -/
def execUnimplemented0x77 (s : State) : Host.Outcome State Fault Refusal := noEffect s
/-- UNIMPLEMENTED(0x88) (R94). -/
def execUnimplemented0x88 (s : State) : Host.Outcome State Fault Refusal := noEffect s
/-- UNIMPLEMENTED(0x89) (R94). -/
def execUnimplemented0x89 (s : State) : Host.Outcome State Fault Refusal := noEffect s
/-- UNIMPLEMENTED(0x8A) (R94). -/
def execUnimplemented0x8A (s : State) : Host.Outcome State Fault Refusal := noEffect s
/-- UNIMPLEMENTED(0x8B) (R94). -/
def execUnimplemented0x8B (s : State) : Host.Outcome State Fault Refusal := noEffect s
/-- UNIMPLEMENTED(0x8C) (R94). -/
def execUnimplemented0x8C (s : State) : Host.Outcome State Fault Refusal := noEffect s
/-- UNIMPLEMENTED(0x8D) (R94). -/
def execUnimplemented0x8D (s : State) : Host.Outcome State Fault Refusal := noEffect s
/-- UNIMPLEMENTED(0x8E) (R94). -/
def execUnimplemented0x8E (s : State) : Host.Outcome State Fault Refusal := noEffect s
/-- UNIMPLEMENTED(0x8F) (R94). -/
def execUnimplemented0x8F (s : State) : Host.Outcome State Fault Refusal := noEffect s
/-- UNIMPLEMENTED(0x90) (R94). -/
def execUnimplemented0x90 (s : State) : Host.Outcome State Fault Refusal := noEffect s
/-- UNIMPLEMENTED(0x91) (R94). -/
def execUnimplemented0x91 (s : State) : Host.Outcome State Fault Refusal := noEffect s
/-- UNIMPLEMENTED(0x92) (R94). -/
def execUnimplemented0x92 (s : State) : Host.Outcome State Fault Refusal := noEffect s
/-- UNIMPLEMENTED(0x93) (R94). -/
def execUnimplemented0x93 (s : State) : Host.Outcome State Fault Refusal := noEffect s
/-- UNIMPLEMENTED(0x94) (R94). -/
def execUnimplemented0x94 (s : State) : Host.Outcome State Fault Refusal := noEffect s
/-- UNIMPLEMENTED(0x95) (R94). -/
def execUnimplemented0x95 (s : State) : Host.Outcome State Fault Refusal := noEffect s
/-- UNIMPLEMENTED(0x96) (R94). -/
def execUnimplemented0x96 (s : State) : Host.Outcome State Fault Refusal := noEffect s
/-- UNIMPLEMENTED(0x97) (R94). -/
def execUnimplemented0x97 (s : State) : Host.Outcome State Fault Refusal := noEffect s
/-- UNIMPLEMENTED(0x98) (R94). -/
def execUnimplemented0x98 (s : State) : Host.Outcome State Fault Refusal := noEffect s
/-- UNIMPLEMENTED(0x99) (R94). -/
def execUnimplemented0x99 (s : State) : Host.Outcome State Fault Refusal := noEffect s
/-- UNIMPLEMENTED(0x9A) (R94). -/
def execUnimplemented0x9A (s : State) : Host.Outcome State Fault Refusal := noEffect s
/-- UNIMPLEMENTED(0x9B) (R94). -/
def execUnimplemented0x9B (s : State) : Host.Outcome State Fault Refusal := noEffect s
/-- UNIMPLEMENTED(0x9C) (R94). -/
def execUnimplemented0x9C (s : State) : Host.Outcome State Fault Refusal := noEffect s
/-- UNIMPLEMENTED(0x9D) (R94). -/
def execUnimplemented0x9D (s : State) : Host.Outcome State Fault Refusal := noEffect s
/-- UNIMPLEMENTED(0x9E) (R94). -/
def execUnimplemented0x9E (s : State) : Host.Outcome State Fault Refusal := noEffect s
/-- UNIMPLEMENTED(0x9F) (R94). -/
def execUnimplemented0x9F (s : State) : Host.Outcome State Fault Refusal := noEffect s
/-- UNIMPLEMENTED(0xA0) (R94). -/
def execUnimplemented0xA0 (s : State) : Host.Outcome State Fault Refusal := noEffect s
/-- UNIMPLEMENTED(0xA1) (R94). -/
def execUnimplemented0xA1 (s : State) : Host.Outcome State Fault Refusal := noEffect s
/-- UNIMPLEMENTED(0xA2) (R94). -/
def execUnimplemented0xA2 (s : State) : Host.Outcome State Fault Refusal := noEffect s
/-- UNIMPLEMENTED(0xA3) (R94). -/
def execUnimplemented0xA3 (s : State) : Host.Outcome State Fault Refusal := noEffect s
/-- UNIMPLEMENTED(0xA4) (R94). -/
def execUnimplemented0xA4 (s : State) : Host.Outcome State Fault Refusal := noEffect s
/-- UNIMPLEMENTED(0xA5) (R94). -/
def execUnimplemented0xA5 (s : State) : Host.Outcome State Fault Refusal := noEffect s
/-- UNIMPLEMENTED(0xA6) (R94). -/
def execUnimplemented0xA6 (s : State) : Host.Outcome State Fault Refusal := noEffect s
/-- UNIMPLEMENTED(0xA7) (R94). -/
def execUnimplemented0xA7 (s : State) : Host.Outcome State Fault Refusal := noEffect s
/-- UNIMPLEMENTED(0xA8) (R94). -/
def execUnimplemented0xA8 (s : State) : Host.Outcome State Fault Refusal := noEffect s
/-- UNIMPLEMENTED(0xA9) (R94). -/
def execUnimplemented0xA9 (s : State) : Host.Outcome State Fault Refusal := noEffect s
/-- UNIMPLEMENTED(0xAA) (R94). -/
def execUnimplemented0xAA (s : State) : Host.Outcome State Fault Refusal := noEffect s
/-- UNIMPLEMENTED(0xAB) (R94). -/
def execUnimplemented0xAB (s : State) : Host.Outcome State Fault Refusal := noEffect s
/-- UNIMPLEMENTED(0xAC) (R94). -/
def execUnimplemented0xAC (s : State) : Host.Outcome State Fault Refusal := noEffect s
/-- UNIMPLEMENTED(0xAD) (R94). -/
def execUnimplemented0xAD (s : State) : Host.Outcome State Fault Refusal := noEffect s
/-- UNIMPLEMENTED(0xAE) (R94). -/
def execUnimplemented0xAE (s : State) : Host.Outcome State Fault Refusal := noEffect s
/-- UNIMPLEMENTED(0xAF) (R94). -/
def execUnimplemented0xAF (s : State) : Host.Outcome State Fault Refusal := noEffect s
/-- UNIMPLEMENTED(0xB0) (R94). -/
def execUnimplemented0xB0 (s : State) : Host.Outcome State Fault Refusal := noEffect s
/-- UNIMPLEMENTED(0xB1) (R94). -/
def execUnimplemented0xB1 (s : State) : Host.Outcome State Fault Refusal := noEffect s
/-- UNIMPLEMENTED(0xB2) (R94). -/
def execUnimplemented0xB2 (s : State) : Host.Outcome State Fault Refusal := noEffect s
/-- UNIMPLEMENTED(0xB3) (R94). -/
def execUnimplemented0xB3 (s : State) : Host.Outcome State Fault Refusal := noEffect s
/-- UNIMPLEMENTED(0xB4) (R94). -/
def execUnimplemented0xB4 (s : State) : Host.Outcome State Fault Refusal := noEffect s
/-- UNIMPLEMENTED(0xB5) (R94). -/
def execUnimplemented0xB5 (s : State) : Host.Outcome State Fault Refusal := noEffect s
/-- UNIMPLEMENTED(0xB6) (R94). -/
def execUnimplemented0xB6 (s : State) : Host.Outcome State Fault Refusal := noEffect s
/-- UNIMPLEMENTED(0xB7) (R94). -/
def execUnimplemented0xB7 (s : State) : Host.Outcome State Fault Refusal := noEffect s
/-- UNIMPLEMENTED(0xB8) (R94). -/
def execUnimplemented0xB8 (s : State) : Host.Outcome State Fault Refusal := noEffect s
/-- UNIMPLEMENTED(0xB9) (R94). -/
def execUnimplemented0xB9 (s : State) : Host.Outcome State Fault Refusal := noEffect s
/-- UNIMPLEMENTED(0xBA) (R94). -/
def execUnimplemented0xBA (s : State) : Host.Outcome State Fault Refusal := noEffect s
/-- UNIMPLEMENTED(0xBB) (R94). -/
def execUnimplemented0xBB (s : State) : Host.Outcome State Fault Refusal := noEffect s
/-- UNIMPLEMENTED(0xBC) (R94). -/
def execUnimplemented0xBC (s : State) : Host.Outcome State Fault Refusal := noEffect s
/-- UNIMPLEMENTED(0xBD) (R94). -/
def execUnimplemented0xBD (s : State) : Host.Outcome State Fault Refusal := noEffect s
/-- UNIMPLEMENTED(0xBE) (R94). -/
def execUnimplemented0xBE (s : State) : Host.Outcome State Fault Refusal := noEffect s
/-- UNIMPLEMENTED(0xBF) (R94). -/
def execUnimplemented0xBF (s : State) : Host.Outcome State Fault Refusal := noEffect s
/-- UNIMPLEMENTED(0xC0) (R94). -/
def execUnimplemented0xC0 (s : State) : Host.Outcome State Fault Refusal := noEffect s
/-- UNIMPLEMENTED(0xC1) (R94). -/
def execUnimplemented0xC1 (s : State) : Host.Outcome State Fault Refusal := noEffect s
/-- UNIMPLEMENTED(0xC2) (R94). -/
def execUnimplemented0xC2 (s : State) : Host.Outcome State Fault Refusal := noEffect s
/-- UNIMPLEMENTED(0xC3) (R94). -/
def execUnimplemented0xC3 (s : State) : Host.Outcome State Fault Refusal := noEffect s
/-- UNIMPLEMENTED(0xC4) (R94). -/
def execUnimplemented0xC4 (s : State) : Host.Outcome State Fault Refusal := noEffect s
/-- UNIMPLEMENTED(0xC5) (R94). -/
def execUnimplemented0xC5 (s : State) : Host.Outcome State Fault Refusal := noEffect s
/-- UNIMPLEMENTED(0xC7) (R94). -/
def execUnimplemented0xC7 (s : State) : Host.Outcome State Fault Refusal := noEffect s
/-- UNIMPLEMENTED(0xC8) (R94). -/
def execUnimplemented0xC8 (s : State) : Host.Outcome State Fault Refusal := noEffect s
/-- UNIMPLEMENTED(0xC9) (R94). -/
def execUnimplemented0xC9 (s : State) : Host.Outcome State Fault Refusal := noEffect s
/-- UNIMPLEMENTED(0xCA) (R94). -/
def execUnimplemented0xCA (s : State) : Host.Outcome State Fault Refusal := noEffect s
/-- UNIMPLEMENTED(0xCB) (R94). -/
def execUnimplemented0xCB (s : State) : Host.Outcome State Fault Refusal := noEffect s
/-- UNIMPLEMENTED(0xCC) (R94). -/
def execUnimplemented0xCC (s : State) : Host.Outcome State Fault Refusal := noEffect s
/-- UNIMPLEMENTED(0xCD) (R94). -/
def execUnimplemented0xCD (s : State) : Host.Outcome State Fault Refusal := noEffect s
/-- UNIMPLEMENTED(0xCE) (R94). -/
def execUnimplemented0xCE (s : State) : Host.Outcome State Fault Refusal := noEffect s
/-- UNIMPLEMENTED(0xCF) (R94). -/
def execUnimplemented0xCF (s : State) : Host.Outcome State Fault Refusal := noEffect s
/-- UNIMPLEMENTED(0xD0) (R94). -/
def execUnimplemented0xD0 (s : State) : Host.Outcome State Fault Refusal := noEffect s
/-- UNIMPLEMENTED(0xD1) (R94). -/
def execUnimplemented0xD1 (s : State) : Host.Outcome State Fault Refusal := noEffect s
/-- UNIMPLEMENTED(0xD2) (R94). -/
def execUnimplemented0xD2 (s : State) : Host.Outcome State Fault Refusal := noEffect s
/-- UNIMPLEMENTED(0xD3) (R94). -/
def execUnimplemented0xD3 (s : State) : Host.Outcome State Fault Refusal := noEffect s
/-- UNIMPLEMENTED(0xD4) (R94). -/
def execUnimplemented0xD4 (s : State) : Host.Outcome State Fault Refusal := noEffect s
/-- UNIMPLEMENTED(0xD5) (R94). -/
def execUnimplemented0xD5 (s : State) : Host.Outcome State Fault Refusal := noEffect s
/-- UNIMPLEMENTED(0xD6) (R94). -/
def execUnimplemented0xD6 (s : State) : Host.Outcome State Fault Refusal := noEffect s
/-- UNIMPLEMENTED(0xD7) (R94). -/
def execUnimplemented0xD7 (s : State) : Host.Outcome State Fault Refusal := noEffect s
/-- UNIMPLEMENTED(0xD8) (R94). -/
def execUnimplemented0xD8 (s : State) : Host.Outcome State Fault Refusal := noEffect s
/-- UNIMPLEMENTED(0xD9) (R94). -/
def execUnimplemented0xD9 (s : State) : Host.Outcome State Fault Refusal := noEffect s
/-- UNIMPLEMENTED(0xDA) (R94). -/
def execUnimplemented0xDA (s : State) : Host.Outcome State Fault Refusal := noEffect s
/-- UNIMPLEMENTED(0xDB) (R94). -/
def execUnimplemented0xDB (s : State) : Host.Outcome State Fault Refusal := noEffect s
/-- UNIMPLEMENTED(0xDC) (R94). -/
def execUnimplemented0xDC (s : State) : Host.Outcome State Fault Refusal := noEffect s
/-- UNIMPLEMENTED(0xDD) (R94). -/
def execUnimplemented0xDD (s : State) : Host.Outcome State Fault Refusal := noEffect s
/-- UNIMPLEMENTED(0xDE) (R94). -/
def execUnimplemented0xDE (s : State) : Host.Outcome State Fault Refusal := noEffect s
/-- UNIMPLEMENTED(0xDF) (R94). -/
def execUnimplemented0xDF (s : State) : Host.Outcome State Fault Refusal := noEffect s
/-- UNIMPLEMENTED(0xE0) (R94). -/
def execUnimplemented0xE0 (s : State) : Host.Outcome State Fault Refusal := noEffect s
/-- UNIMPLEMENTED(0xE1) (R94). -/
def execUnimplemented0xE1 (s : State) : Host.Outcome State Fault Refusal := noEffect s
/-- UNIMPLEMENTED(0xE2) (R94). -/
def execUnimplemented0xE2 (s : State) : Host.Outcome State Fault Refusal := noEffect s
/-- UNIMPLEMENTED(0xE3) (R94). -/
def execUnimplemented0xE3 (s : State) : Host.Outcome State Fault Refusal := noEffect s
/-- UNIMPLEMENTED(0xE4) (R94). -/
def execUnimplemented0xE4 (s : State) : Host.Outcome State Fault Refusal := noEffect s
/-- UNIMPLEMENTED(0xE5) (R94). -/
def execUnimplemented0xE5 (s : State) : Host.Outcome State Fault Refusal := noEffect s
/-- UNIMPLEMENTED(0xE6) (R94). -/
def execUnimplemented0xE6 (s : State) : Host.Outcome State Fault Refusal := noEffect s
/-- UNIMPLEMENTED(0xE7) (R94). -/
def execUnimplemented0xE7 (s : State) : Host.Outcome State Fault Refusal := noEffect s
/-- UNIMPLEMENTED(0xE8) (R94). -/
def execUnimplemented0xE8 (s : State) : Host.Outcome State Fault Refusal := noEffect s
/-- UNIMPLEMENTED(0xE9) (R94). -/
def execUnimplemented0xE9 (s : State) : Host.Outcome State Fault Refusal := noEffect s
/-- UNIMPLEMENTED(0xEA) (R94). -/
def execUnimplemented0xEA (s : State) : Host.Outcome State Fault Refusal := noEffect s
/-- UNIMPLEMENTED(0xEB) (R94). -/
def execUnimplemented0xEB (s : State) : Host.Outcome State Fault Refusal := noEffect s
/-- UNIMPLEMENTED(0xEC) (R94). -/
def execUnimplemented0xEC (s : State) : Host.Outcome State Fault Refusal := noEffect s
/-- UNIMPLEMENTED(0xED) (R94). -/
def execUnimplemented0xED (s : State) : Host.Outcome State Fault Refusal := noEffect s
/-- UNIMPLEMENTED(0xEE) (R94). -/
def execUnimplemented0xEE (s : State) : Host.Outcome State Fault Refusal := noEffect s
/-- UNIMPLEMENTED(0xEF) (R94). -/
def execUnimplemented0xEF (s : State) : Host.Outcome State Fault Refusal := noEffect s
/-- UNIMPLEMENTED(0xF0) (R94). -/
def execUnimplemented0xF0 (s : State) : Host.Outcome State Fault Refusal := noEffect s
/-- UNIMPLEMENTED(0xF1) (R94). -/
def execUnimplemented0xF1 (s : State) : Host.Outcome State Fault Refusal := noEffect s
/-- UNIMPLEMENTED(0xF2) (R94). -/
def execUnimplemented0xF2 (s : State) : Host.Outcome State Fault Refusal := noEffect s
/-- UNIMPLEMENTED(0xF3) (R94). -/
def execUnimplemented0xF3 (s : State) : Host.Outcome State Fault Refusal := noEffect s
/-- UNIMPLEMENTED(0xF4) (R94). -/
def execUnimplemented0xF4 (s : State) : Host.Outcome State Fault Refusal := noEffect s
/-- UNIMPLEMENTED(0xF5) (R94). -/
def execUnimplemented0xF5 (s : State) : Host.Outcome State Fault Refusal := noEffect s
/-- UNIMPLEMENTED(0xF6) (R94). -/
def execUnimplemented0xF6 (s : State) : Host.Outcome State Fault Refusal := noEffect s
/-- UNIMPLEMENTED(0xF7) (R94). -/
def execUnimplemented0xF7 (s : State) : Host.Outcome State Fault Refusal := noEffect s
/-- UNIMPLEMENTED(0xF8) (R94). -/
def execUnimplemented0xF8 (s : State) : Host.Outcome State Fault Refusal := noEffect s
/-- UNIMPLEMENTED(0xF9) (R94). -/
def execUnimplemented0xF9 (s : State) : Host.Outcome State Fault Refusal := noEffect s
/-- UNIMPLEMENTED(0xFA) (R94). -/
def execUnimplemented0xFA (s : State) : Host.Outcome State Fault Refusal := noEffect s
/-- UNIMPLEMENTED(0xFB) (R94). -/
def execUnimplemented0xFB (s : State) : Host.Outcome State Fault Refusal := noEffect s
/-- UNIMPLEMENTED(0xFC) (R94). -/
def execUnimplemented0xFC (s : State) : Host.Outcome State Fault Refusal := noEffect s
/-- UNIMPLEMENTED(0xFD) (R94). -/
def execUnimplemented0xFD (s : State) : Host.Outcome State Fault Refusal := noEffect s
/-- UNIMPLEMENTED(0xFE) (R94). -/
def execUnimplemented0xFE (s : State) : Host.Outcome State Fault Refusal := noEffect s
/-- UNIMPLEMENTED(0xFF) (R94). -/
def execUnimplemented0xFF (s : State) : Host.Outcome State Fault Refusal := noEffect s

end Sys2Proof.Machine
end

