-- ==== Sys2Proof/Machine/Dispatch.lean ====
section
/-! DEFINITION. The dispatcher's execute phase (42_machine_control.md R90, step 3): one arm for each
constructor of Instr, each the one call of that instruction's meaning. -/

namespace Sys2Proof.Machine

def exec (i : Instr) (s : State) : Host.Outcome State Fault Refusal :=
  match i with
  | .nop => Sys2Proof.Machine.execNop s
  | .lxiB d16 => Sys2Proof.Machine.execLxiB d16 s
  | .unimplemented0x02 => Sys2Proof.Machine.execUnimplemented0x02 s
  | .unimplemented0x03 => Sys2Proof.Machine.execUnimplemented0x03 s
  | .unimplemented0x04 => Sys2Proof.Machine.execUnimplemented0x04 s
  | .unimplemented0x05 => Sys2Proof.Machine.execUnimplemented0x05 s
  | .mviB d8 => Sys2Proof.Machine.execMviB d8 s
  | .unimplemented0x07 => Sys2Proof.Machine.execUnimplemented0x07 s
  | .unimplemented0x08 => Sys2Proof.Machine.execUnimplemented0x08 s
  | .unimplemented0x09 => Sys2Proof.Machine.execUnimplemented0x09 s
  | .unimplemented0x0A => Sys2Proof.Machine.execUnimplemented0x0A s
  | .unimplemented0x0B => Sys2Proof.Machine.execUnimplemented0x0B s
  | .unimplemented0x0C => Sys2Proof.Machine.execUnimplemented0x0C s
  | .unimplemented0x0D => Sys2Proof.Machine.execUnimplemented0x0D s
  | .mviC d8 => Sys2Proof.Machine.execMviC d8 s
  | .unimplemented0x0F => Sys2Proof.Machine.execUnimplemented0x0F s
  | .unimplemented0x10 => Sys2Proof.Machine.execUnimplemented0x10 s
  | .lxiD d16 => Sys2Proof.Machine.execLxiD d16 s
  | .unimplemented0x12 => Sys2Proof.Machine.execUnimplemented0x12 s
  | .unimplemented0x13 => Sys2Proof.Machine.execUnimplemented0x13 s
  | .unimplemented0x14 => Sys2Proof.Machine.execUnimplemented0x14 s
  | .unimplemented0x15 => Sys2Proof.Machine.execUnimplemented0x15 s
  | .mviD d8 => Sys2Proof.Machine.execMviD d8 s
  | .unimplemented0x17 => Sys2Proof.Machine.execUnimplemented0x17 s
  | .unimplemented0x18 => Sys2Proof.Machine.execUnimplemented0x18 s
  | .unimplemented0x19 => Sys2Proof.Machine.execUnimplemented0x19 s
  | .unimplemented0x1A => Sys2Proof.Machine.execUnimplemented0x1A s
  | .unimplemented0x1B => Sys2Proof.Machine.execUnimplemented0x1B s
  | .unimplemented0x1C => Sys2Proof.Machine.execUnimplemented0x1C s
  | .unimplemented0x1D => Sys2Proof.Machine.execUnimplemented0x1D s
  | .mviE d8 => Sys2Proof.Machine.execMviE d8 s
  | .unimplemented0x1F => Sys2Proof.Machine.execUnimplemented0x1F s
  | .unimplemented0x20 => Sys2Proof.Machine.execUnimplemented0x20 s
  | .lxiH d16 => Sys2Proof.Machine.execLxiH d16 s
  | .unimplemented0x22 => Sys2Proof.Machine.execUnimplemented0x22 s
  | .unimplemented0x23 => Sys2Proof.Machine.execUnimplemented0x23 s
  | .unimplemented0x24 => Sys2Proof.Machine.execUnimplemented0x24 s
  | .unimplemented0x25 => Sys2Proof.Machine.execUnimplemented0x25 s
  | .mviH d8 => Sys2Proof.Machine.execMviH d8 s
  | .unimplemented0x27 => Sys2Proof.Machine.execUnimplemented0x27 s
  | .unimplemented0x28 => Sys2Proof.Machine.execUnimplemented0x28 s
  | .unimplemented0x29 => Sys2Proof.Machine.execUnimplemented0x29 s
  | .unimplemented0x2A => Sys2Proof.Machine.execUnimplemented0x2A s
  | .unimplemented0x2B => Sys2Proof.Machine.execUnimplemented0x2B s
  | .unimplemented0x2C => Sys2Proof.Machine.execUnimplemented0x2C s
  | .unimplemented0x2D => Sys2Proof.Machine.execUnimplemented0x2D s
  | .mviL d8 => Sys2Proof.Machine.execMviL d8 s
  | .unimplemented0x2F => Sys2Proof.Machine.execUnimplemented0x2F s
  | .unimplemented0x30 => Sys2Proof.Machine.execUnimplemented0x30 s
  | .lxiSP d16 => Sys2Proof.Machine.execLxiSP d16 s
  | .sta a16 => Sys2Proof.Machine.execSta a16 s
  | .unimplemented0x33 => Sys2Proof.Machine.execUnimplemented0x33 s
  | .unimplemented0x34 => Sys2Proof.Machine.execUnimplemented0x34 s
  | .unimplemented0x35 => Sys2Proof.Machine.execUnimplemented0x35 s
  | .unimplemented0x36 => Sys2Proof.Machine.execUnimplemented0x36 s
  | .unimplemented0x37 => Sys2Proof.Machine.execUnimplemented0x37 s
  | .unimplemented0x38 => Sys2Proof.Machine.execUnimplemented0x38 s
  | .unimplemented0x39 => Sys2Proof.Machine.execUnimplemented0x39 s
  | .unimplemented0x3A => Sys2Proof.Machine.execUnimplemented0x3A s
  | .unimplemented0x3B => Sys2Proof.Machine.execUnimplemented0x3B s
  | .unimplemented0x3C => Sys2Proof.Machine.execUnimplemented0x3C s
  | .unimplemented0x3D => Sys2Proof.Machine.execUnimplemented0x3D s
  | .mviA d8 => Sys2Proof.Machine.execMviA d8 s
  | .unimplemented0x3F => Sys2Proof.Machine.execUnimplemented0x3F s
  | .unimplemented0x40 => Sys2Proof.Machine.execUnimplemented0x40 s
  | .unimplemented0x41 => Sys2Proof.Machine.execUnimplemented0x41 s
  | .unimplemented0x42 => Sys2Proof.Machine.execUnimplemented0x42 s
  | .unimplemented0x43 => Sys2Proof.Machine.execUnimplemented0x43 s
  | .unimplemented0x44 => Sys2Proof.Machine.execUnimplemented0x44 s
  | .unimplemented0x45 => Sys2Proof.Machine.execUnimplemented0x45 s
  | .unimplemented0x46 => Sys2Proof.Machine.execUnimplemented0x46 s
  | .unimplemented0x47 => Sys2Proof.Machine.execUnimplemented0x47 s
  | .unimplemented0x48 => Sys2Proof.Machine.execUnimplemented0x48 s
  | .unimplemented0x49 => Sys2Proof.Machine.execUnimplemented0x49 s
  | .unimplemented0x4A => Sys2Proof.Machine.execUnimplemented0x4A s
  | .unimplemented0x4B => Sys2Proof.Machine.execUnimplemented0x4B s
  | .unimplemented0x4C => Sys2Proof.Machine.execUnimplemented0x4C s
  | .unimplemented0x4D => Sys2Proof.Machine.execUnimplemented0x4D s
  | .unimplemented0x4E => Sys2Proof.Machine.execUnimplemented0x4E s
  | .unimplemented0x4F => Sys2Proof.Machine.execUnimplemented0x4F s
  | .unimplemented0x50 => Sys2Proof.Machine.execUnimplemented0x50 s
  | .unimplemented0x51 => Sys2Proof.Machine.execUnimplemented0x51 s
  | .unimplemented0x52 => Sys2Proof.Machine.execUnimplemented0x52 s
  | .unimplemented0x53 => Sys2Proof.Machine.execUnimplemented0x53 s
  | .unimplemented0x54 => Sys2Proof.Machine.execUnimplemented0x54 s
  | .unimplemented0x55 => Sys2Proof.Machine.execUnimplemented0x55 s
  | .unimplemented0x56 => Sys2Proof.Machine.execUnimplemented0x56 s
  | .unimplemented0x57 => Sys2Proof.Machine.execUnimplemented0x57 s
  | .unimplemented0x58 => Sys2Proof.Machine.execUnimplemented0x58 s
  | .unimplemented0x59 => Sys2Proof.Machine.execUnimplemented0x59 s
  | .unimplemented0x5A => Sys2Proof.Machine.execUnimplemented0x5A s
  | .unimplemented0x5B => Sys2Proof.Machine.execUnimplemented0x5B s
  | .unimplemented0x5C => Sys2Proof.Machine.execUnimplemented0x5C s
  | .unimplemented0x5D => Sys2Proof.Machine.execUnimplemented0x5D s
  | .unimplemented0x5E => Sys2Proof.Machine.execUnimplemented0x5E s
  | .unimplemented0x5F => Sys2Proof.Machine.execUnimplemented0x5F s
  | .unimplemented0x60 => Sys2Proof.Machine.execUnimplemented0x60 s
  | .unimplemented0x61 => Sys2Proof.Machine.execUnimplemented0x61 s
  | .unimplemented0x62 => Sys2Proof.Machine.execUnimplemented0x62 s
  | .unimplemented0x63 => Sys2Proof.Machine.execUnimplemented0x63 s
  | .unimplemented0x64 => Sys2Proof.Machine.execUnimplemented0x64 s
  | .unimplemented0x65 => Sys2Proof.Machine.execUnimplemented0x65 s
  | .unimplemented0x66 => Sys2Proof.Machine.execUnimplemented0x66 s
  | .unimplemented0x67 => Sys2Proof.Machine.execUnimplemented0x67 s
  | .unimplemented0x68 => Sys2Proof.Machine.execUnimplemented0x68 s
  | .unimplemented0x69 => Sys2Proof.Machine.execUnimplemented0x69 s
  | .unimplemented0x6A => Sys2Proof.Machine.execUnimplemented0x6A s
  | .unimplemented0x6B => Sys2Proof.Machine.execUnimplemented0x6B s
  | .unimplemented0x6C => Sys2Proof.Machine.execUnimplemented0x6C s
  | .unimplemented0x6D => Sys2Proof.Machine.execUnimplemented0x6D s
  | .unimplemented0x6E => Sys2Proof.Machine.execUnimplemented0x6E s
  | .unimplemented0x6F => Sys2Proof.Machine.execUnimplemented0x6F s
  | .unimplemented0x70 => Sys2Proof.Machine.execUnimplemented0x70 s
  | .unimplemented0x71 => Sys2Proof.Machine.execUnimplemented0x71 s
  | .unimplemented0x72 => Sys2Proof.Machine.execUnimplemented0x72 s
  | .unimplemented0x73 => Sys2Proof.Machine.execUnimplemented0x73 s
  | .unimplemented0x74 => Sys2Proof.Machine.execUnimplemented0x74 s
  | .unimplemented0x75 => Sys2Proof.Machine.execUnimplemented0x75 s
  | .hlt => Sys2Proof.Machine.execHlt s
  | .unimplemented0x77 => Sys2Proof.Machine.execUnimplemented0x77 s
  | .movAB => Sys2Proof.Machine.execMovAB s
  | .movAC => Sys2Proof.Machine.execMovAC s
  | .movAD => Sys2Proof.Machine.execMovAD s
  | .movAE => Sys2Proof.Machine.execMovAE s
  | .movAH => Sys2Proof.Machine.execMovAH s
  | .movAL => Sys2Proof.Machine.execMovAL s
  | .movAM => Sys2Proof.Machine.execMovAM s
  | .movAA => Sys2Proof.Machine.execMovAA s
  | .addB => Sys2Proof.Machine.execAddB s
  | .addC => Sys2Proof.Machine.execAddC s
  | .addD => Sys2Proof.Machine.execAddD s
  | .addE => Sys2Proof.Machine.execAddE s
  | .addH => Sys2Proof.Machine.execAddH s
  | .addL => Sys2Proof.Machine.execAddL s
  | .addM => Sys2Proof.Machine.execAddM s
  | .addA => Sys2Proof.Machine.execAddA s
  | .unimplemented0x88 => Sys2Proof.Machine.execUnimplemented0x88 s
  | .unimplemented0x89 => Sys2Proof.Machine.execUnimplemented0x89 s
  | .unimplemented0x8A => Sys2Proof.Machine.execUnimplemented0x8A s
  | .unimplemented0x8B => Sys2Proof.Machine.execUnimplemented0x8B s
  | .unimplemented0x8C => Sys2Proof.Machine.execUnimplemented0x8C s
  | .unimplemented0x8D => Sys2Proof.Machine.execUnimplemented0x8D s
  | .unimplemented0x8E => Sys2Proof.Machine.execUnimplemented0x8E s
  | .unimplemented0x8F => Sys2Proof.Machine.execUnimplemented0x8F s
  | .unimplemented0x90 => Sys2Proof.Machine.execUnimplemented0x90 s
  | .unimplemented0x91 => Sys2Proof.Machine.execUnimplemented0x91 s
  | .unimplemented0x92 => Sys2Proof.Machine.execUnimplemented0x92 s
  | .unimplemented0x93 => Sys2Proof.Machine.execUnimplemented0x93 s
  | .unimplemented0x94 => Sys2Proof.Machine.execUnimplemented0x94 s
  | .unimplemented0x95 => Sys2Proof.Machine.execUnimplemented0x95 s
  | .unimplemented0x96 => Sys2Proof.Machine.execUnimplemented0x96 s
  | .unimplemented0x97 => Sys2Proof.Machine.execUnimplemented0x97 s
  | .unimplemented0x98 => Sys2Proof.Machine.execUnimplemented0x98 s
  | .unimplemented0x99 => Sys2Proof.Machine.execUnimplemented0x99 s
  | .unimplemented0x9A => Sys2Proof.Machine.execUnimplemented0x9A s
  | .unimplemented0x9B => Sys2Proof.Machine.execUnimplemented0x9B s
  | .unimplemented0x9C => Sys2Proof.Machine.execUnimplemented0x9C s
  | .unimplemented0x9D => Sys2Proof.Machine.execUnimplemented0x9D s
  | .unimplemented0x9E => Sys2Proof.Machine.execUnimplemented0x9E s
  | .unimplemented0x9F => Sys2Proof.Machine.execUnimplemented0x9F s
  | .unimplemented0xA0 => Sys2Proof.Machine.execUnimplemented0xA0 s
  | .unimplemented0xA1 => Sys2Proof.Machine.execUnimplemented0xA1 s
  | .unimplemented0xA2 => Sys2Proof.Machine.execUnimplemented0xA2 s
  | .unimplemented0xA3 => Sys2Proof.Machine.execUnimplemented0xA3 s
  | .unimplemented0xA4 => Sys2Proof.Machine.execUnimplemented0xA4 s
  | .unimplemented0xA5 => Sys2Proof.Machine.execUnimplemented0xA5 s
  | .unimplemented0xA6 => Sys2Proof.Machine.execUnimplemented0xA6 s
  | .unimplemented0xA7 => Sys2Proof.Machine.execUnimplemented0xA7 s
  | .unimplemented0xA8 => Sys2Proof.Machine.execUnimplemented0xA8 s
  | .unimplemented0xA9 => Sys2Proof.Machine.execUnimplemented0xA9 s
  | .unimplemented0xAA => Sys2Proof.Machine.execUnimplemented0xAA s
  | .unimplemented0xAB => Sys2Proof.Machine.execUnimplemented0xAB s
  | .unimplemented0xAC => Sys2Proof.Machine.execUnimplemented0xAC s
  | .unimplemented0xAD => Sys2Proof.Machine.execUnimplemented0xAD s
  | .unimplemented0xAE => Sys2Proof.Machine.execUnimplemented0xAE s
  | .unimplemented0xAF => Sys2Proof.Machine.execUnimplemented0xAF s
  | .unimplemented0xB0 => Sys2Proof.Machine.execUnimplemented0xB0 s
  | .unimplemented0xB1 => Sys2Proof.Machine.execUnimplemented0xB1 s
  | .unimplemented0xB2 => Sys2Proof.Machine.execUnimplemented0xB2 s
  | .unimplemented0xB3 => Sys2Proof.Machine.execUnimplemented0xB3 s
  | .unimplemented0xB4 => Sys2Proof.Machine.execUnimplemented0xB4 s
  | .unimplemented0xB5 => Sys2Proof.Machine.execUnimplemented0xB5 s
  | .unimplemented0xB6 => Sys2Proof.Machine.execUnimplemented0xB6 s
  | .unimplemented0xB7 => Sys2Proof.Machine.execUnimplemented0xB7 s
  | .unimplemented0xB8 => Sys2Proof.Machine.execUnimplemented0xB8 s
  | .unimplemented0xB9 => Sys2Proof.Machine.execUnimplemented0xB9 s
  | .unimplemented0xBA => Sys2Proof.Machine.execUnimplemented0xBA s
  | .unimplemented0xBB => Sys2Proof.Machine.execUnimplemented0xBB s
  | .unimplemented0xBC => Sys2Proof.Machine.execUnimplemented0xBC s
  | .unimplemented0xBD => Sys2Proof.Machine.execUnimplemented0xBD s
  | .unimplemented0xBE => Sys2Proof.Machine.execUnimplemented0xBE s
  | .unimplemented0xBF => Sys2Proof.Machine.execUnimplemented0xBF s
  | .unimplemented0xC0 => Sys2Proof.Machine.execUnimplemented0xC0 s
  | .unimplemented0xC1 => Sys2Proof.Machine.execUnimplemented0xC1 s
  | .unimplemented0xC2 => Sys2Proof.Machine.execUnimplemented0xC2 s
  | .unimplemented0xC3 => Sys2Proof.Machine.execUnimplemented0xC3 s
  | .unimplemented0xC4 => Sys2Proof.Machine.execUnimplemented0xC4 s
  | .unimplemented0xC5 => Sys2Proof.Machine.execUnimplemented0xC5 s
  | .adi d8 => Sys2Proof.Machine.execAdi d8 s
  | .unimplemented0xC7 => Sys2Proof.Machine.execUnimplemented0xC7 s
  | .unimplemented0xC8 => Sys2Proof.Machine.execUnimplemented0xC8 s
  | .unimplemented0xC9 => Sys2Proof.Machine.execUnimplemented0xC9 s
  | .unimplemented0xCA => Sys2Proof.Machine.execUnimplemented0xCA s
  | .unimplemented0xCB => Sys2Proof.Machine.execUnimplemented0xCB s
  | .unimplemented0xCC => Sys2Proof.Machine.execUnimplemented0xCC s
  | .unimplemented0xCD => Sys2Proof.Machine.execUnimplemented0xCD s
  | .unimplemented0xCE => Sys2Proof.Machine.execUnimplemented0xCE s
  | .unimplemented0xCF => Sys2Proof.Machine.execUnimplemented0xCF s
  | .unimplemented0xD0 => Sys2Proof.Machine.execUnimplemented0xD0 s
  | .unimplemented0xD1 => Sys2Proof.Machine.execUnimplemented0xD1 s
  | .unimplemented0xD2 => Sys2Proof.Machine.execUnimplemented0xD2 s
  | .unimplemented0xD3 => Sys2Proof.Machine.execUnimplemented0xD3 s
  | .unimplemented0xD4 => Sys2Proof.Machine.execUnimplemented0xD4 s
  | .unimplemented0xD5 => Sys2Proof.Machine.execUnimplemented0xD5 s
  | .unimplemented0xD6 => Sys2Proof.Machine.execUnimplemented0xD6 s
  | .unimplemented0xD7 => Sys2Proof.Machine.execUnimplemented0xD7 s
  | .unimplemented0xD8 => Sys2Proof.Machine.execUnimplemented0xD8 s
  | .unimplemented0xD9 => Sys2Proof.Machine.execUnimplemented0xD9 s
  | .unimplemented0xDA => Sys2Proof.Machine.execUnimplemented0xDA s
  | .unimplemented0xDB => Sys2Proof.Machine.execUnimplemented0xDB s
  | .unimplemented0xDC => Sys2Proof.Machine.execUnimplemented0xDC s
  | .unimplemented0xDD => Sys2Proof.Machine.execUnimplemented0xDD s
  | .unimplemented0xDE => Sys2Proof.Machine.execUnimplemented0xDE s
  | .unimplemented0xDF => Sys2Proof.Machine.execUnimplemented0xDF s
  | .unimplemented0xE0 => Sys2Proof.Machine.execUnimplemented0xE0 s
  | .unimplemented0xE1 => Sys2Proof.Machine.execUnimplemented0xE1 s
  | .unimplemented0xE2 => Sys2Proof.Machine.execUnimplemented0xE2 s
  | .unimplemented0xE3 => Sys2Proof.Machine.execUnimplemented0xE3 s
  | .unimplemented0xE4 => Sys2Proof.Machine.execUnimplemented0xE4 s
  | .unimplemented0xE5 => Sys2Proof.Machine.execUnimplemented0xE5 s
  | .unimplemented0xE6 => Sys2Proof.Machine.execUnimplemented0xE6 s
  | .unimplemented0xE7 => Sys2Proof.Machine.execUnimplemented0xE7 s
  | .unimplemented0xE8 => Sys2Proof.Machine.execUnimplemented0xE8 s
  | .unimplemented0xE9 => Sys2Proof.Machine.execUnimplemented0xE9 s
  | .unimplemented0xEA => Sys2Proof.Machine.execUnimplemented0xEA s
  | .unimplemented0xEB => Sys2Proof.Machine.execUnimplemented0xEB s
  | .unimplemented0xEC => Sys2Proof.Machine.execUnimplemented0xEC s
  | .unimplemented0xED => Sys2Proof.Machine.execUnimplemented0xED s
  | .unimplemented0xEE => Sys2Proof.Machine.execUnimplemented0xEE s
  | .unimplemented0xEF => Sys2Proof.Machine.execUnimplemented0xEF s
  | .unimplemented0xF0 => Sys2Proof.Machine.execUnimplemented0xF0 s
  | .unimplemented0xF1 => Sys2Proof.Machine.execUnimplemented0xF1 s
  | .unimplemented0xF2 => Sys2Proof.Machine.execUnimplemented0xF2 s
  | .unimplemented0xF3 => Sys2Proof.Machine.execUnimplemented0xF3 s
  | .unimplemented0xF4 => Sys2Proof.Machine.execUnimplemented0xF4 s
  | .unimplemented0xF5 => Sys2Proof.Machine.execUnimplemented0xF5 s
  | .unimplemented0xF6 => Sys2Proof.Machine.execUnimplemented0xF6 s
  | .unimplemented0xF7 => Sys2Proof.Machine.execUnimplemented0xF7 s
  | .unimplemented0xF8 => Sys2Proof.Machine.execUnimplemented0xF8 s
  | .unimplemented0xF9 => Sys2Proof.Machine.execUnimplemented0xF9 s
  | .unimplemented0xFA => Sys2Proof.Machine.execUnimplemented0xFA s
  | .unimplemented0xFB => Sys2Proof.Machine.execUnimplemented0xFB s
  | .unimplemented0xFC => Sys2Proof.Machine.execUnimplemented0xFC s
  | .unimplemented0xFD => Sys2Proof.Machine.execUnimplemented0xFD s
  | .unimplemented0xFE => Sys2Proof.Machine.execUnimplemented0xFE s
  | .unimplemented0xFF => Sys2Proof.Machine.execUnimplemented0xFF s

end Sys2Proof.Machine
end

