-- ==== Sys2Proof/Machine/Step.lean ====
section
/-! DEFINITION. One step of the machine (42_machine_control.md R90): fetch and decode, execute, report. -/

namespace Sys2Proof.Machine

/-- The step (R90). A halted machine takes none (R19). -/
def step (s : State) : Host.Outcome State Fault Refusal :=
  if s.halted then haltedStep s
  else
    match s.fetchInstr with
    | (i, t) =>
      match exec i t with
      | .next u => .next (u.report i)
      | .fault r => .fault r
      | .refused r => .refused r

/-- `s` with the instruction of a table word placed where the next step fetches, three bytes from PC
(log 3). A step is taken only by a running machine, so the halted bit is cleared as well. -/
def State.withFetchWord (s : State) (nbits w : Nat) : State :=
  { s with mem := s.mem.load s.pc (tableWordBytes nbits w), halted := false }

end Sys2Proof.Machine
end

