-- ==== Sys2Proof/Safety.lean ====
section
/-! DEFINITION. The terms that claims use: what stands at PC, what it is to run as an instruction, the
words of a frame, the spec's own formulas for a sum, for the flags and for decoding by bit fields, the
invariant of the machine, the end of a run, and a run free of unimplemented opcodes. -/

namespace Sys2Proof.Machine

/-- The three bytes from PC, addresses modulo 65536: as many as the longest instruction has (R50). -/
def State.bytesAtPc (s : State) : List Byte :=
  [s.readByte s.pc, s.readByte (s.pc + 1#16), s.readByte (s.pc + 2#16)]

/-- The bytes at PC decode to the instruction `i`. -/
def State.AtPc (s : State) (i : Instr) : Prop := ∃ rest, decode s.bytesAtPc = .ok (i, rest)

/-- The state with PC moved past `n` bytes, modulo 65536 (R15, R16). -/
def State.pastBytes (s : State) (n : Nat) : State := { s with pc := s.pc + BitVec.ofNat 16 n }

/-- `i` is an instruction of `n` bytes whose effect on the state is `effect`: exec completes in every
state with that effect, and a running machine that has `i` at PC moves PC past it, has the effect,
counts the step and reports it (42_machine_control.md R90). -/
def RunsAs (i : Instr) (n : Nat) (effect : State → State) : Prop :=
  (∀ s : State, exec i s = .next (effect s)) ∧
    ∀ s : State, s.halted = false → s.AtPc i →
      step s = .next ((effect (s.pastBytes n)).report i)

/-! ### Frames: what an effect from `s` to `t` leaves alone -/

/-- Every general register but those listed. -/
def State.KeepsRegistersBut (s t : State) (changed : List Reg8) : Prop :=
  ∀ r : Reg8, r ∉ changed → t.getReg r = s.getReg r

/-- PC: exec is given the state with PC already past the instruction (R15). -/
def State.KeepsPc (s t : State) : Prop := t.pc = s.pc

/-- SP. -/
def State.KeepsSp (s t : State) : Prop := t.sp = s.sp

/-- The whole flag byte. -/
def State.KeepsFlags (s t : State) : Prop := t.f = s.f

/-- The halted bit. -/
def State.KeepsHalted (s t : State) : Prop := t.halted = s.halted

/-- The count and what the trace port has emitted: they change at the end of a step only. -/
def State.KeepsCountAndTrace (s t : State) : Prop := t.count = s.count ∧ t.trace = s.trace

/-- Every byte of memory. -/
def State.KeepsMemory (s t : State) : Prop := ∀ x : Addr, t.readByte x = s.readByte x

/-! ### The spec's own formulas -/

/-- `(A + v) mod 256` as natural numbers (41_arithmetic.md R81, R84). -/
def State.sumWith (s : State) (v : Byte) : Byte := BitVec.ofNat 8 ((s.a.toNat + v.toNat) % 256)

/-- The state after an add of `v`: A is the sum, and UpdateFlags has been invoked on it (R81 to R83). -/
def State.afterAdd (s : State) (v : Byte) : State :=
  { s with a := s.sumWith v, f := Machine.updateFlags (s.sumWith v) s.f }

/-- The address `H*256 + L` (20_memory.md R42). -/
def State.addressHL (s : State) : Addr := BitVec.ofNat 16 (s.h.toNat * 256 + s.l.toNat)

/-- The register that a code `sss` or `ddd` names; `none` for 110, which is `M` (30_encoding.md R52). -/
def regOfCode (code : BitVec 3) : Option Reg8 :=
  if code = 0b000#3 then some .B
  else if code = 0b001#3 then some .C
  else if code = 0b010#3 then some .D
  else if code = 0b011#3 then some .E
  else if code = 0b100#3 then some .H
  else if code = 0b101#3 then some .L
  else if code = 0b111#3 then some .A
  else none

/-- `MOV A,src`; `none` is `M`. -/
def movOf : Option Reg8 → Instr
  | some .B => .movAB
  | some .C => .movAC
  | some .D => .movAD
  | some .E => .movAE
  | some .H => .movAH
  | some .L => .movAL
  | some .A => .movAA
  | none => .movAM

/-- `ADD src`; `none` is `M`. -/
def addOf : Option Reg8 → Instr
  | some .B => .addB
  | some .C => .addC
  | some .D => .addD
  | some .E => .addE
  | some .H => .addH
  | some .L => .addL
  | some .A => .addA
  | none => .addM

/-- `MVI r,d8`. -/
def mviOf (r : Reg8) (d8 : Byte) : Instr :=
  match r with
  | .B => .mviB d8
  | .C => .mviC d8
  | .D => .mviD d8
  | .E => .mviE d8
  | .H => .mviH d8
  | .L => .mviL d8
  | .A => .mviA d8

/-- `LXI rp,d16` by the pair code: 00 B, 01 D, 10 H, 11 SP (30_encoding.md R53). -/
def lxiOf (rp : BitVec 2) (d16 : Word) : Instr :=
  if rp = 0b00#2 then .lxiB d16
  else if rp = 0b01#2 then .lxiD d16
  else if rp = 0b10#2 then .lxiH d16
  else .lxiSP d16

/-- Decoding by the bit fields of the opcode byte, as the pseudocode of 30_encoding.md R55 writes it;
`none` is UNIMPLEMENTED(op). -/
def decodeByFields (op b1 b2 : Byte) : Option Instr :=
  if op = 0x00#8 then some .nop
  else if op = 0x76#8 then some .hlt
  else if op = 0x32#8 then some (.sta (BitVec.ofNat 16 (b2.toNat * 256 + b1.toNat)))
  else if op = 0xC6#8 then some (.adi b1)
  else if op.extractLsb' 3 5 = 0b01111#5 then some (movOf (regOfCode (op.extractLsb' 0 3)))
  else if op.extractLsb' 3 5 = 0b10000#5 then some (addOf (regOfCode (op.extractLsb' 0 3)))
  else if op.extractLsb' 6 2 = 0b00#2 ∧ op.extractLsb' 0 3 = 0b110#3 then
    (regOfCode (op.extractLsb' 3 3)).map fun r => mviOf r b1
  else if op.extractLsb' 6 2 = 0b00#2 ∧ op.extractLsb' 0 4 = 0b0001#4 then
    some (lxiOf (op.extractLsb' 4 2) (BitVec.ofNat 16 (b2.toNat * 256 + b1.toNat)))
  else none

/-- The number of 1 bits of a byte, counted over its bit numbers (R80). -/
def ones (v : Byte) : Nat := ((List.range 8).filter fun n => v.getLsbD n).length

/-! ### The invariant -/

/-- The values F can hold after reset (10_state.md R13). -/
def reachableFlags : List Byte := [0x00#8, 0x04#8, 0x44#8, 0x80#8, 0x84#8]

/-- The invariant of the machine: it holds after reset with any `IMAGE`, and every step keeps it. -/
structure State.Inv (s : State) : Prop where
  /-- Memory has its canonical form. -/
  memWf : s.mem.wf
  /-- F holds one of the five values of R13. -/
  flags : s.f ∈ reachableFlags
  /-- The snapshots emitted so far, newest first, are numbered count, ..., 2, 1 (R20, R108). -/
  numbered : s.trace.map Snapshot.seq = (List.range s.count).reverse.map (· + 1)
  /-- The last snapshot shows the registers, the flags, PC, SP and memory as they are (R108). -/
  latest : ∀ snap older, s.trace = snap :: older →
    snap = s.snapshot Config.traceWindow snap.what
  /-- The machine is halted exactly when the last snapshot is that of `HLT` (R93, R97). -/
  haltedIff : s.halted = true ↔
    ∃ snap older, s.trace = snap :: older ∧ snap.what = .executed .hlt
  /-- No snapshot before the last is that of `HLT`: nothing follows a halt (R19, R93). -/
  haltIsLast : ∀ snap ∈ s.trace.tail, snap.what ≠ .executed .hlt

/-! ### Runs -/

/-- `k` steps one after the other, stopping at a fault or a refusal (42_machine_control.md R91): the
host's `Core.run`, over this machine's own types. -/
def runSteps : Nat → State → Host.Outcome State Fault Refusal
  | 0, s => .next s
  | k + 1, s =>
    match step s with
    | .next t => runSteps k t
    | .fault r => .fault r
    | .refused r => .refused r

/-- The run has ended (42_machine_control.md R97). -/
def State.runEnded (s : State) : Bool := s.halted

/-- No step so far was marked UNIMPLEMENTED: the stricter reading a claim may ask for (D15, U1). -/
def State.noneUnimplemented (s : State) : Bool :=
  s.trace.all fun snap =>
    match snap.what with
    | .executed _ => true
    | .unimplemented _ => false

/-- Two states that agree on all that can steer execution: the general registers, PC, memory and the
halted bit. They may differ in F, SP, `count` and the trace. -/
def State.AgreeButFlagsSpCount (s t : State) : Prop :=
  s.a = t.a ∧ s.b = t.b ∧ s.c = t.c ∧ s.d = t.d ∧ s.e = t.e ∧ s.h = t.h ∧ s.l = t.l ∧
    s.pc = t.pc ∧ s.halted = t.halted ∧ s.mem = t.mem

end Sys2Proof.Machine
end

