-- ==== Sys2Proof/Certificates/Slice0/Obligations.lean ====
section
/-! DEFINITION. The statements for the provers. Each docstring names the rule or the section of spec/ that
the statement formalises. Opcode byte values are the spec's decision D1 (92_eei_decisions.md), so every
statement that names a byte value is derived; the meanings are stated over decoded instructions. -/

open Sys2Proof Sys2Proof.Machine

/-! ### Reset and the invariant -/

/-- 10_state.md R26: every row of the reset table, for every `IMAGE`. -/
def Obligations.ResetGivesTableOfR26 : Prop :=
  ∀ image : Addr → Byte,
    (State.boot image).a = 0x00#8 ∧ (State.boot image).b = 0x00#8 ∧
    (State.boot image).c = 0x00#8 ∧ (State.boot image).d = 0x00#8 ∧
    (State.boot image).e = 0x00#8 ∧ (State.boot image).h = 0x00#8 ∧
    (State.boot image).l = 0x00#8 ∧ (State.boot image).f = 0x00#8 ∧
    (State.boot image).pc = 0x0000#16 ∧ (State.boot image).sp = 0xFFFF#16 ∧
    (State.boot image).halted = false ∧ (State.boot image).count = 0 ∧
    ∀ x : Addr, (State.boot image).readByte x = image x

/-- The model's choice (log 2, log 3, log 5; 70_reset_and_hazards.md section 1): `State.reset` is the
machine before anything is loaded, that is with the all-zero image; a booted machine has emitted
nothing. -/
def Obligations.ResetIsBootOfTheZeroImage : Prop :=
  State.boot (fun _ => 0x00#8) = State.reset ∧
    ∀ image : Addr → Byte, (State.boot image).trace = []

/-- The invariant of the model (Safety.lean) holds at reset, with any `IMAGE`. The canonical form of
memory is the model's (log 2), and so is the field that keeps the emitted snapshots (log 5). -/
def Obligations.InvariantHoldsAtReset : Prop :=
  State.reset.Inv ∧ ∀ image : Addr → Byte, (State.boot image).Inv

/-- Every step keeps the invariant, from every state that meets it: the canonical form of memory, the
five flag values of 10_state.md R13, the numbering of the snapshots (R20, R108), the agreement of the
last snapshot with the state (R108), and that the machine is halted exactly when the last snapshot is
that of `HLT` (42_machine_control.md R93, R97). The canonical form is the model's (log 2), the field that keeps
the emitted snapshots too (log 5), and that the step of a halted machine answers an unchanged next
state (log 4). -/
def Obligations.StepKeepsInvariant : Prop :=
  ∀ s t : State, s.Inv → step s = .next t → t.Inv

/-- 10_state.md R13, its derived part: on every run from reset, with any `IMAGE`, F holds one of five
values, and its bits 5, 4, 3, 1 and 0 are 0 (bits 5, 3 and 1: decision D6). Steps of a halted machine
are the model's (log 4) and change nothing. -/
def Obligations.ReachableFlagBytesAreFive : Prop :=
  ∀ (image : Addr → Byte) (k : Nat) (t : State),
    runSteps k (State.boot image) = .next t →
      t.f ∈ [0x00#8, 0x04#8, 0x44#8, 0x80#8, 0x84#8] ∧ t.f &&& 0x3B#8 = 0x00#8

/-! ### Encoding -/

/-- 30_encoding.md sections 1 to 3: decoding the encoding of any instruction gives it back, with every
operand, whatever bytes follow. Every instruction is well-formed (R58), so none is left out. -/
def Obligations.DecodeOfEncodeGivesInstrBack : Prop :=
  ∀ (i : Instr) (rest : List Byte), decode (encode i ++ rest) = .ok (i, rest)

/-- The other direction: the bytes that were decoded are the encoding of the instruction and the rest,
so each byte list has one meaning and no bit is dropped. -/
def Obligations.EncodeOfDecodedBytesGivesBytesBack : Prop :=
  ∀ (bytes rest : List Byte) (i : Instr), decode bytes = .ok (i, rest) → encode i ++ rest = bytes

/-- 30_encoding.md R50, R55: the decoder rejects the empty list, and a list that ends before the operand
bytes of its opcode byte's format (two for 01, 11, 21, 31, 32; one for 06, 0E, 16, 1E, 26, 2E, 3E, C6;
none otherwise), and no other list. The byte values are decision D1; a decoder over lists that can be
too short is the model's (log 7): on the machine memory always has a next byte. -/
def Obligations.DecodeRejectsExactlyShortLists : Prop :=
  (∀ bytes : List Byte, decode bytes = .error .noOpcode ↔ bytes = []) ∧
  (∀ (bytes : List Byte) (op : Byte), decode bytes = .error (.missingOperand op) ↔
    ∃ rest : List Byte, bytes = op :: rest ∧ rest.length <
      if op ∈ [0x01#8, 0x11#8, 0x21#8, 0x31#8, 0x32#8] then 2
      else if op ∈ [0x06#8, 0x0E#8, 0x16#8, 0x1E#8, 0x26#8, 0x2E#8, 0x3E#8, 0xC6#8] then 1
      else 0)

/-- 30_encoding.md R54 (byte values: decision D1): what each of the 31 opcode bytes selects, for all
values of the bytes after it, a 16-bit operand low byte first (R56). -/
def Obligations.OpcodeMapOfR54 : Prop :=
  ∀ b1 b2 : Byte,
    instrOfBytes 0x00#8 b1 b2 = .nop ∧
    instrOfBytes 0x01#8 b1 b2 = .lxiB (BitVec.ofNat 16 (b2.toNat * 256 + b1.toNat)) ∧
    instrOfBytes 0x06#8 b1 b2 = .mviB b1 ∧
    instrOfBytes 0x0E#8 b1 b2 = .mviC b1 ∧
    instrOfBytes 0x11#8 b1 b2 = .lxiD (BitVec.ofNat 16 (b2.toNat * 256 + b1.toNat)) ∧
    instrOfBytes 0x16#8 b1 b2 = .mviD b1 ∧
    instrOfBytes 0x1E#8 b1 b2 = .mviE b1 ∧
    instrOfBytes 0x21#8 b1 b2 = .lxiH (BitVec.ofNat 16 (b2.toNat * 256 + b1.toNat)) ∧
    instrOfBytes 0x26#8 b1 b2 = .mviH b1 ∧
    instrOfBytes 0x2E#8 b1 b2 = .mviL b1 ∧
    instrOfBytes 0x31#8 b1 b2 = .lxiSP (BitVec.ofNat 16 (b2.toNat * 256 + b1.toNat)) ∧
    instrOfBytes 0x32#8 b1 b2 = .sta (BitVec.ofNat 16 (b2.toNat * 256 + b1.toNat)) ∧
    instrOfBytes 0x3E#8 b1 b2 = .mviA b1 ∧
    instrOfBytes 0x76#8 b1 b2 = .hlt ∧
    instrOfBytes 0x78#8 b1 b2 = .movAB ∧
    instrOfBytes 0x79#8 b1 b2 = .movAC ∧
    instrOfBytes 0x7A#8 b1 b2 = .movAD ∧
    instrOfBytes 0x7B#8 b1 b2 = .movAE ∧
    instrOfBytes 0x7C#8 b1 b2 = .movAH ∧
    instrOfBytes 0x7D#8 b1 b2 = .movAL ∧
    instrOfBytes 0x7E#8 b1 b2 = .movAM ∧
    instrOfBytes 0x7F#8 b1 b2 = .movAA ∧
    instrOfBytes 0x80#8 b1 b2 = .addB ∧
    instrOfBytes 0x81#8 b1 b2 = .addC ∧
    instrOfBytes 0x82#8 b1 b2 = .addD ∧
    instrOfBytes 0x83#8 b1 b2 = .addE ∧
    instrOfBytes 0x84#8 b1 b2 = .addH ∧
    instrOfBytes 0x85#8 b1 b2 = .addL ∧
    instrOfBytes 0x86#8 b1 b2 = .addM ∧
    instrOfBytes 0x87#8 b1 b2 = .addA ∧
    instrOfBytes 0xC6#8 b1 b2 = .adi b1

/-- 30_encoding.md R57, R58 (byte values: decisions D1, D4): an opcode byte outside the 31 of R54 decodes
to the unimplemented opcode of that very byte, one byte long and reported as UNIMPLEMENTED(op); one of
the 31 decodes to an instruction that is reported as itself; there are 225 of the former. -/
def Obligations.BytesOutsideR54AreUnimplemented : Prop :=
  (∀ op b1 b2 : Byte, op ∉ implementedOpcodes →
    (instrOfBytes op b1 b2).length = 1 ∧
      reportOf (instrOfBytes op b1 b2) = .unimplemented op) ∧
  (∀ op b1 b2 : Byte, op ∈ implementedOpcodes →
    reportOf (instrOfBytes op b1 b2) = .executed (instrOfBytes op b1 b2)) ∧
  ((List.range 256).filter fun n => !implementedOpcodes.contains (BitVec.ofNat 8 n)).length = 225

/-- 30_encoding.md R51 to R53, R55 (decisions D1, D2): the opcode map agrees with decoding by the bit
fields of the opcode byte, on every opcode byte and all operand bytes. -/
def Obligations.OpcodeMapAgreesWithBitFields : Prop :=
  ∀ op b1 b2 : Byte,
    match decodeByFields op b1 b2 with
    | some i => instrOfBytes op b1 b2 = i
    | none => reportOf (instrOfBytes op b1 b2) = .unimplemented op

/-- A sanity check of words written out from 30_encoding.md R54 (byte values: decision D1), one or more of
each family. -/
def Obligations.SampleWordsDecode : Prop :=
  decode [0x78#8] = .ok (.movAB, []) ∧
  decode [0x7E#8] = .ok (.movAM, []) ∧
  decode [0x3E#8, 0x05#8] = .ok (.mviA 0x05#8, []) ∧
  decode [0x21#8, 0x34#8, 0x12#8] = .ok (.lxiH 0x1234#16, []) ∧
  decode [0x31#8, 0x00#8, 0x20#8] = .ok (.lxiSP 0x2000#16, []) ∧
  decode [0x32#8, 0x50#8, 0x00#8] = .ok (.sta 0x0050#16, []) ∧
  decode [0x80#8] = .ok (.addB, []) ∧
  decode [0x86#8] = .ok (.addM, []) ∧
  decode [0xC6#8, 0x01#8] = .ok (.adi 0x01#8, []) ∧
  decode [0x00#8] = .ok (.nop, []) ∧
  decode [0x76#8] = .ok (.hlt, []) ∧
  decode [0xFF#8] = .ok (.unimplemented0xFF, []) ∧
  decodeTableWord 24 0x123421 = some (.lxiH 0x1234#16)

/-! ### The step -/

/-- 42_machine_control.md R90: when the bytes at PC decode to `i`, a step of a running machine is exec of
`i` on the state with PC past the bytes of `i`, and then the report: the count is incremented and the
snapshot emitted. How the work is divided between exec and step is the model's reading (log 14), and
the field that keeps the snapshots is the model's own (log 5). -/
def Obligations.StepRunsDecodedInstruction : Prop :=
  ∀ (s : State) (i : Instr), s.halted = false → s.AtPc i →
    ∃ t : State, exec i (s.pastBytes i.length) = .next t ∧ step s = .next (t.report i)

/-- 42_machine_control.md R90, 60_exceptions.md R100: a step always completes. In every state some next
state is answered, and a running machine has an instruction at PC, whatever the bytes, counts the step
and emits one snapshot. That a halted machine answers a next state is the model's choice (log 4), and
the field that keeps the snapshots is the model's own (log 5). -/
def Obligations.StepAlwaysCompletes : Prop :=
  (∀ s : State, ∃ t : State, step s = .next t) ∧
  ∀ s : State, s.halted = false →
    ∃ (i : Instr) (t : State) (snap : Snapshot), s.AtPc i ∧ step s = .next t ∧
      t.count = s.count + 1 ∧ t.trace = snap :: s.trace

/-- 42_machine_control.md R91: a run goes on for any number of steps and neither faults nor is refused,
and as long as the machine is not halted each of them is counted (10_state.md R20). In the spec the run ends
at `HLT` and no step follows (R19, R90): that the steps from a halted state, and those after `HLT`,
answer an unchanged next state is the model's choice (log 4). -/
def Obligations.RunGoesOnAndCountsEveryStep : Prop :=
  ∀ (k : Nat) (s : State), ∃ t : State, runSteps k s = .next t ∧
    (t.halted = false → t.count = s.count + k)

/-- 10_state.md R19, 60_exceptions.md R110: a halted machine keeps all its state for ever. That "takes no
step" is answered as an unchanged next state is the model's choice (log 4). -/
def Obligations.HaltedMachineKeepsItsState : Prop :=
  ∀ (s : State) (k : Nat), s.halted = true → runSteps k s = .next s

/-- 10_state.md R16 (the wrap inside an instruction: decision D11): every step advances PC by the length of
the instruction, 1, 2 or 3 as its format says, modulo 65536; a `STA` at 0xFFFF has its operand bytes at
0x0000 and 0x0001 and leaves PC = 0x0002. -/
def Obligations.PcAdvancesByInstructionLength : Prop :=
  (∀ (s : State) (i : Instr), s.halted = false → s.AtPc i →
    ∃ t : State, step s = .next t ∧ t.pc.toNat = (s.pc.toNat + i.length) % 65536 ∧
      i.length = 1 + (formatOfOpcode (s.readByte s.pc)).operandCount) ∧
  ∀ (s : State) (a16 : Addr), s.halted = false → s.pc = 0xFFFF#16 → s.AtPc (.sta a16) →
    a16.toNat = (s.readByte 0x0001#16).toNat * 256 + (s.readByte 0x0000#16).toNat ∧
      ∃ t : State, step s = .next t ∧ t.pc = 0x0002#16

/-- The model's test aid (log 3): a table word that decodes to `i` stands at PC of a running machine after
`withFetchWord`, which leaves all else but memory as it was. -/
def Obligations.TableWordIsFetchedNext : Prop :=
  ∀ (s : State) (nbits w : Nat) (i : Instr), decodeTableWord nbits w = some i →
    (s.withFetchWord nbits w).AtPc i ∧ (s.withFetchWord nbits w).halted = false ∧
      ∃ m : Memory, s.withFetchWord nbits w = { s with mem := m, halted := false }

/-! ### Data transfer -/

/-- 40_data_transfer.md R70 (A as a source: decision D3): `MOV A,r` copies the register into A and changes
nothing else; one byte. -/
def Obligations.MovARegisterCopiesSource : Prop :=
  RunsAs .movAB 1 (fun s => { s with a := s.b }) ∧
  RunsAs .movAC 1 (fun s => { s with a := s.c }) ∧
  RunsAs .movAD 1 (fun s => { s with a := s.d }) ∧
  RunsAs .movAE 1 (fun s => { s with a := s.e }) ∧
  RunsAs .movAH 1 (fun s => { s with a := s.h }) ∧
  RunsAs .movAL 1 (fun s => { s with a := s.l }) ∧
  RunsAs .movAA 1 (fun s => s)

/-- 40_data_transfer.md R71: `MOV A,M` copies the byte at H*256+L, with H and L as they are when it
executes, into A and changes nothing else; one byte. -/
def Obligations.MovAMemoryCopiesByteAtHL : Prop :=
  RunsAs .movAM 1 (fun s => { s with a := s.readByte s.addressHL })

/-- 40_data_transfer.md R72: `MVI r,d8` loads the operand byte, every value of it, and changes nothing
else, no flag among it; two bytes. -/
def Obligations.MviLoadsOperandByte : Prop :=
  ∀ d8 : Byte,
    RunsAs (.mviB d8) 2 (fun s => { s with b := d8 }) ∧
    RunsAs (.mviC d8) 2 (fun s => { s with c := d8 }) ∧
    RunsAs (.mviD d8) 2 (fun s => { s with d := d8 }) ∧
    RunsAs (.mviE d8) 2 (fun s => { s with e := d8 }) ∧
    RunsAs (.mviH d8) 2 (fun s => { s with h := d8 }) ∧
    RunsAs (.mviL d8) 2 (fun s => { s with l := d8 }) ∧
    RunsAs (.mviA d8) 2 (fun s => { s with a := d8 })

/-- 40_data_transfer.md R73: `LXI rp,d16` puts bits 7:0 of its word into the low register of the pair and
bits 15:8 into the high one, and changes nothing else; three bytes. A step puts the first operand
byte, the one at PC+1, into the low register and the second, the one at PC+2, into the high one. -/
def Obligations.LxiPairLoadsBothHalves : Prop :=
  (∀ (lo hi : Byte) (d16 : Word), d16.toNat = hi.toNat * 256 + lo.toNat →
    RunsAs (.lxiB d16) 3 (fun s => { s with b := hi, c := lo }) ∧
    RunsAs (.lxiD d16) 3 (fun s => { s with d := hi, e := lo }) ∧
    RunsAs (.lxiH d16) 3 (fun s => { s with h := hi, l := lo })) ∧
  ∀ (s : State) (d16 : Word), s.halted = false →
    let first := s.readByte (s.pc + 1#16)
    let second := s.readByte (s.pc + 2#16)
    (s.AtPc (.lxiB d16) → step s =
      .next (State.report { s with pc := s.pc + 3#16, b := second, c := first } (.lxiB d16))) ∧
    (s.AtPc (.lxiD d16) → step s =
      .next (State.report { s with pc := s.pc + 3#16, d := second, e := first } (.lxiD d16))) ∧
    (s.AtPc (.lxiH d16) → step s =
      .next (State.report { s with pc := s.pc + 3#16, h := second, l := first } (.lxiH d16)))

/-- 40_data_transfer.md R74: `LXI SP,d16` loads SP, with any 16-bit value, and changes nothing else; three
bytes. -/
def Obligations.LxiSpLoadsStackPointer : Prop :=
  ∀ d16 : Word, RunsAs (.lxiSP d16) 3 (fun s => { s with sp := d16 })

/-- 40_data_transfer.md R75: `STA a16` makes the cell at the address the instruction carries the value of A
and changes nothing else; three bytes. The address does not depend on H and L: the cell is `a16`
whatever they hold. -/
def Obligations.StaStoresAccumulatorAtOperandAddress : Prop :=
  ∀ a16 : Addr,
    (∀ s : State, ∃ m : Memory, exec (.sta a16) s = .next { s with mem := m } ∧
      ∀ x : Addr, m.read x = if x = a16 then s.a else s.mem.read x) ∧
    ∀ s : State, s.halted = false → s.AtPc (.sta a16) →
      ∃ m : Memory, step s = .next (State.report { s with pc := s.pc + 3#16, mem := m } (.sta a16)) ∧
        ∀ x : Addr, m.read x = if x = a16 then s.a else s.mem.read x

/-! ### Arithmetic and flags -/

/-- 41_arithmetic.md R80 (bits 5, 3, 1: decision D6): UpdateFlags sets Sign iff bit 7 of the result is
set, Zero iff the result is 0x00, Parity iff it has an even number of 1 bits, and leaves the other five
bits of F. -/
def Obligations.UpdateFlagsFollowsR80 : Prop :=
  ∀ v f : Byte,
    ((updateFlags v f).getLsbD 7 = true ↔ v.getLsbD 7 = true) ∧
    ((updateFlags v f).getLsbD 6 = true ↔ v = 0x00#8) ∧
    ((updateFlags v f).getLsbD 2 = true ↔ ones v % 2 = 0) ∧
    ∀ n ∈ [5, 4, 3, 1, 0], (updateFlags v f).getLsbD n = f.getLsbD n

/-- 41_arithmetic.md R86, derived from R80: F after an add, from a flag byte whose bits 5, 4, 3, 1 and 0
are 0, row by row of the table. -/
def Obligations.FlagByteAfterAddFollowsR86 : Prop :=
  ∀ v f : Byte, f &&& 0x3B#8 = 0x00#8 →
    updateFlags v f =
      if v = 0x00#8 then 0x44#8
      else if v.toNat < 0x80 then (if ones v % 2 = 1 then 0x00#8 else 0x04#8)
      else (if ones v % 2 = 1 then 0x80#8 else 0x84#8)

/-- 41_arithmetic.md R81 (A as a source: decision D3; bits 5, 3, 1 of F: decision D6): `ADD r` makes A the
sum (A + r) mod 256, invokes UpdateFlags on it and changes nothing else; one byte. -/
def Obligations.AddRegisterAddsModulo256 : Prop :=
  RunsAs .addB 1 (fun s => s.afterAdd s.b) ∧
  RunsAs .addC 1 (fun s => s.afterAdd s.c) ∧
  RunsAs .addD 1 (fun s => s.afterAdd s.d) ∧
  RunsAs .addE 1 (fun s => s.afterAdd s.e) ∧
  RunsAs .addH 1 (fun s => s.afterAdd s.h) ∧
  RunsAs .addL 1 (fun s => s.afterAdd s.l) ∧
  RunsAs .addA 1 (fun s => s.afterAdd s.a)

/-- 41_arithmetic.md R82: `ADD M` adds the byte at H*256+L, with H and L as they are when it executes. -/
def Obligations.AddMemoryAddsByteAtHL : Prop :=
  RunsAs .addM 1 (fun s => s.afterAdd (s.readByte s.addressHL))

/-- 41_arithmetic.md R83: `ADI d8` adds the operand byte, unsigned and not extended; two bytes. -/
def Obligations.AdiAddsOperandByte : Prop :=
  ∀ d8 : Byte, RunsAs (.adi d8) 2 (fun s => s.afterAdd d8)

/-- 41_arithmetic.md R85 (decisions D5, D6): no step changes bits 5, 4, 3, 1 or 0 of F; in particular
neither Carry nor AuxCarry is ever computed. That a halted machine, too, answers a next state is the
model's choice (log 4). -/
def Obligations.CarryAndAuxCarryAreNeverWritten : Prop :=
  ∀ s : State, ∃ t : State, step s = .next t ∧
    ∀ n ∈ [5, 4, 3, 1, 0], t.f.getLsbD n = s.f.getLsbD n

/-! ### Machine control -/

/-- 42_machine_control.md R92: `NOP` changes no register, flag or memory cell; PC, the count and the
snapshot advance, and the snapshot names an executed `NOP`. -/
def Obligations.NopChangesOnlyPcAndCount : Prop :=
  RunsAs .nop 1 (fun s => s) ∧ reportOf .nop = .executed .nop

/-- 42_machine_control.md R93 (the bit `halted` and PC after `HLT`: decision D9): `HLT` sets the halted
bit and nothing else; PC is past the `HLT` byte, the step is counted and reported as `HLT`, and no
later step changes anything (that an unchanged next state is answered: log 4). -/
def Obligations.HltStopsTheMachine : Prop :=
  RunsAs .hlt 1 (fun s => { s with halted := true }) ∧ reportOf .hlt = .executed .hlt ∧
  ∀ (s : State) (k : Nat), s.halted = false → s.AtPc .hlt →
    runSteps (k + 1) s = .next (State.report { s with pc := s.pc + 1#16, halted := true } .hlt)

/-- 42_machine_control.md R94 (decision D15): each of the 225 unimplemented opcodes, the constructors
`unimplemented0x02` to `unimplemented0xFF` (every constructor for which `isUnimplemented` is true),
completes in every state and changes no register, flag, memory cell or halted bit; PC advances by 1,
the step is counted, and its snapshot is marked UNIMPLEMENTED with the opcode byte. -/
def Obligations.UnimplementedOpcodeIsReportedNoOp : Prop :=
  ∀ i : Instr, i.isUnimplemented = true →
    RunsAs i 1 (fun s => s) ∧ reportOf i = .unimplemented i.opcode ∧
      i.opcode ∉ implementedOpcodes

/-! ### Rules about the whole machine -/

/-- 10_state.md R11, the table of writers: what each general register can have been written by. -/
def Obligations.GeneralRegistersWrittenOnlyAsR11Lists : Prop :=
  ∀ (s : State) (i : Instr), s.halted = false → s.AtPc i →
    ∃ t : State, step s = .next t ∧
      (t.b ≠ s.b → (∃ d, i = .mviB d) ∨ ∃ w, i = .lxiB w) ∧
      (t.c ≠ s.c → (∃ d, i = .mviC d) ∨ ∃ w, i = .lxiB w) ∧
      (t.d ≠ s.d → (∃ d, i = .mviD d) ∨ ∃ w, i = .lxiD w) ∧
      (t.e ≠ s.e → (∃ d, i = .mviE d) ∨ ∃ w, i = .lxiD w) ∧
      (t.h ≠ s.h → (∃ d, i = .mviH d) ∨ ∃ w, i = .lxiH w) ∧
      (t.l ≠ s.l → (∃ d, i = .mviL d) ∨ ∃ w, i = .lxiH w) ∧
      (t.a ≠ s.a → (∃ src, i = movOf src) ∨ (∃ src, i = addOf src) ∨
        (∃ d, i = .mviA d) ∨ ∃ d, i = .adi d)

/-- 10_state.md R14: only the accumulator-add family writes F. -/
def Obligations.FlagsWrittenOnlyByAddFamily : Prop :=
  ∀ (s : State) (i : Instr), s.halted = false → s.AtPc i →
    ∃ t : State, step s = .next t ∧
      (t.f ≠ s.f → (∃ src, i = addOf src) ∨ ∃ d, i = .adi d)

/-- 10_state.md R17: SP is 0xFFFF after reset; only `LXI SP` writes it; no instruction reads it: with
another SP a step of a running machine does the same to everything else, so far as it is not a
snapshot of SP; and the snapshot of every step shows it. -/
def Obligations.StackPointerIsWrittenOnlyByLxiSpAndReadByNone : Prop :=
  (∀ image : Addr → Byte, (State.boot image).sp = 0xFFFF#16) ∧
  (∀ (s : State) (i : Instr), s.halted = false → s.AtPc i →
    ∃ (t : State) (snap : Snapshot), step s = .next t ∧ t.trace = snap :: s.trace ∧
      snap.sp = t.sp ∧
      (∀ d16 : Word, i = .lxiSP d16 → t.sp = d16) ∧
      ((∀ d16 : Word, i ≠ .lxiSP d16) → t.sp = s.sp)) ∧
  ∀ (s : State) (w : Word), s.halted = false →
    ∃ t t' : State, step s = .next t ∧ step { s with sp := w } = .next t' ∧
      { t' with sp := t.sp, trace := t.trace } = t

/-- 10_state.md R21: one array that fetch, data reads and writes share; of the instructions only `STA`
changes a cell, every cell can be written by it, and it changes no other cell. -/
def Obligations.OnlyStaChangesMemory : Prop :=
  ∀ (s : State) (i : Instr), s.halted = false → s.AtPc i →
    ∃ t : State, step s = .next t ∧
      ((∀ a16 : Addr, i ≠ .sta a16) → ∀ x : Addr, t.readByte x = s.readByte x) ∧
      ∀ a16 : Addr, i = .sta a16 →
        ∀ x : Addr, t.readByte x = if x = a16 then s.a else s.readByte x

/-- 10_state.md R19, 42_machine_control.md R93 (decision D9): a step leaves the machine halted exactly
when it was halted or the step executed `HLT`. That a step of a halted machine answers a next state is
the model's choice (log 4). -/
def Obligations.OnlyHltHalts : Prop :=
  ∀ (s : State) (i : Instr), s.AtPc i →
    ∃ t : State, step s = .next t ∧ (t.halted = true ↔ s.halted = true ∨ i = .hlt)

/-- 60_exceptions.md R108 (record and window: decisions D13, D18): a step of a running machine emits one
snapshot, taken after the effect and the count: its number is the new count, its identity that of the
instruction, its registers, F, PC, SP and window those of the state after the step. The field that keeps the emitted
snapshots is the model's own (log 5). -/
def Obligations.SnapshotShowsStateAfterStep : Prop :=
  ∀ (s : State) (i : Instr), s.halted = false → s.AtPc i →
    ∃ (t : State) (snap : Snapshot), step s = .next t ∧ t.trace = snap :: s.trace ∧
      snap.seq = s.count + 1 ∧ snap.seq = t.count ∧
      snap.what = (if i.isUnimplemented then .unimplemented (s.readByte s.pc) else .executed i) ∧
      snap.a = t.a ∧ snap.b = t.b ∧ snap.c = t.c ∧ snap.d = t.d ∧ snap.e = t.e ∧
      snap.h = t.h ∧ snap.l = t.l ∧ snap.f = t.f ∧ snap.pc = t.pc ∧ snap.sp = t.sp ∧
      snap.window.length = Config.traceWindow.length ∧
      ∀ n : Nat, n < Config.traceWindow.length →
        snap.window[n]? = some (t.readByte (Config.traceWindow.base + BitVec.ofNat 16 n))

/-- 42_machine_control.md R94, 60_exceptions.md R102 (byte values: decision D1): the snapshot of a step is
marked UNIMPLEMENTED(op) exactly when the byte at PC is `op` and is none of the 31 opcode bytes of R54. -/
def Obligations.UnimplementedMarkIffByteOutsideR54 : Prop :=
  ∀ (s : State) (op : Byte), s.halted = false →
    ∃ (t : State) (snap : Snapshot), step s = .next t ∧ t.trace = snap :: s.trace ∧
      (snap.what = .unimplemented op ↔ s.readByte s.pc = op ∧ op ∉ implementedOpcodes)

/-- 10_state.md R14, R17, R20, 60_exceptions.md R107, R108: F, SP, the count and the trace steer nothing.
Two machines that agree on the general registers, PC, memory and the halted bit still agree on them
after any number of steps: no program can act on a flag (70_reset_and_hazards.md R126). That both runs
answer next states from halted states too, and past `HLT`, where the spec has no step (R19, R90), is
the model's choice (log 4). -/
def Obligations.FlagsSpCountAndTraceSteerNothing : Prop :=
  ∀ (k : Nat) (s t : State), s.AgreeButFlagsSpCount t →
    ∃ s' t' : State, runSteps k s = .next s' ∧ runSteps k t = .next t' ∧
      s'.AgreeButFlagsSpCount t'

/-! ### Memory, pairs, and what the next instruction sees -/

/-- 10_state.md R12: a pair's value is high*256 + low of the most recent writes to its two halves, in
either order of writing; writing the pair writes the two halves. -/
def Obligations.PairIsViewOfItsHalves : Prop :=
  (∀ (s : State) (p : RegPair) (hi lo : Byte),
    (((s.setReg (RegPair.high p) hi).setReg (RegPair.low p) lo).getPair p).toNat =
      hi.toNat * 256 + lo.toNat ∧
    (((s.setReg (RegPair.low p) lo).setReg (RegPair.high p) hi).getPair p).toNat =
      hi.toNat * 256 + lo.toNat) ∧
  (∀ s : State,
    (s.getPair .BC).toNat = s.b.toNat * 256 + s.c.toNat ∧
    (s.getPair .DE).toNat = s.d.toNat * 256 + s.e.toNat ∧
    (s.getPair .HL).toNat = s.h.toNat * 256 + s.l.toNat) ∧
  ∀ (s : State) (p : RegPair) (w : Word),
    (s.setPair p w).getPair p = w ∧
    ((s.setPair p w).getReg (RegPair.high p)).toNat = w.toNat / 256 ∧
    ((s.setPair p w).getReg (RegPair.low p)).toNat = w.toNat % 256

/-- The model's canonical form (Memory.wf, log 2): two memories in it that read alike everywhere are equal. -/
def Obligations.CanonicalMemoriesThatReadAlikeAreEqual : Prop :=
  ∀ m n : Memory, m.wf → n.wf → (∀ x : Addr, m.read x = n.read x) → m = n

/-- 20_memory.md R40, derived there: a `STA` to the address after it makes the next step fetch the stored
byte as its opcode, with no fence. -/
def Obligations.StoredByteIsFetchedByNextStep : Prop :=
  ∀ (s : State) (a16 : Addr), s.halted = false → s.AtPc (.sta a16) → a16 = s.pc + 3#16 →
    ∃ t : State, step s = .next t ∧ t.pc = a16 ∧ t.readByte t.pc = s.a ∧
      ∀ i : Instr, t.AtPc i → i.opcode = s.a

/-- 20_memory.md R43, 70_reset_and_hazards.md R123: `MOV A,M` right after `MVI L` reads at the new L. -/
def Obligations.MovAMemorySeesNewL : Prop :=
  ∀ (s : State) (low : Byte), s.halted = false → s.AtPc (.mviL low) →
    ∃ t : State, step s = .next t ∧
      (t.AtPc .movAM → ∃ u : State, step t = .next u ∧
        u.a = s.readByte (BitVec.ofNat 16 (s.h.toNat * 256 + low.toNat)))

/-! ### Frames: what an instruction leaves unchanged when exec answers a next state

PC among it: exec runs with PC already past the instruction, and neither the count nor the trace moves
before the report that ends the step (R15, R90; log 14). -/

/-- Frame of `MOV A,r` and `MOV A,M` (R70, R71): all but A. -/
def Obligations.MovChangesOnlyA : Prop :=
  ∀ i ∈ [Instr.movAB, .movAC, .movAD, .movAE, .movAH, .movAL, .movAA, .movAM],
    ∀ s t : State, exec i s = .next t →
      s.KeepsRegistersBut t [.A] ∧ s.KeepsFlags t ∧ s.KeepsPc t ∧ s.KeepsSp t ∧ s.KeepsHalted t ∧
      s.KeepsCountAndTrace t ∧ s.KeepsMemory t

/-- Frame of `MVI r,d8` (R72): all but the destination register. -/
def Obligations.MviChangesOnlyItsRegister : Prop :=
  ∀ d8 : Byte,
    ∀ form ∈ [(Instr.mviB d8, Reg8.B), (.mviC d8, .C), (.mviD d8, .D), (.mviE d8, .E),
        (.mviH d8, .H), (.mviL d8, .L), (.mviA d8, .A)],
      ∀ s t : State, exec form.1 s = .next t →
        s.KeepsRegistersBut t [form.2] ∧ s.KeepsFlags t ∧ s.KeepsPc t ∧ s.KeepsSp t ∧ s.KeepsHalted t ∧
        s.KeepsCountAndTrace t ∧ s.KeepsMemory t

/-- Frame of `LXI B`, `LXI D`, `LXI H` (R73): all but the two registers of the pair. -/
def Obligations.LxiChangesOnlyItsPair : Prop :=
  ∀ d16 : Word,
    ∀ form ∈ [(Instr.lxiB d16, [Reg8.B, .C]), (.lxiD d16, [.D, .E]), (.lxiH d16, [.H, .L])],
      ∀ s t : State, exec form.1 s = .next t →
        s.KeepsRegistersBut t form.2 ∧ s.KeepsFlags t ∧ s.KeepsPc t ∧ s.KeepsSp t ∧ s.KeepsHalted t ∧
        s.KeepsCountAndTrace t ∧ s.KeepsMemory t

/-- Frame of `LXI SP` (R74): all but SP. -/
def Obligations.LxiSpChangesOnlySp : Prop :=
  ∀ (d16 : Word) (s t : State), exec (.lxiSP d16) s = .next t →
    s.KeepsRegistersBut t [] ∧ s.KeepsFlags t ∧ s.KeepsPc t ∧ s.KeepsHalted t ∧ s.KeepsCountAndTrace t ∧
    s.KeepsMemory t

/-- Frame of the add family (R80 to R83; bits 5, 3, 1 of F: decision D6): all but A and bits 7, 6 and 2
of F. -/
def Obligations.AddFamilyChangesOnlyAAndThreeFlags : Prop :=
  ∀ d8 : Byte,
    ∀ i ∈ [Instr.addB, .addC, .addD, .addE, .addH, .addL, .addA, .addM, .adi d8],
      ∀ s t : State, exec i s = .next t →
        s.KeepsRegistersBut t [.A] ∧ (∀ n ∈ [5, 4, 3, 1, 0], t.f.getLsbD n = s.f.getLsbD n) ∧
        s.KeepsPc t ∧ s.KeepsSp t ∧ s.KeepsHalted t ∧ s.KeepsCountAndTrace t ∧ s.KeepsMemory t

/-- Frame of `STA` (R75): every register, all of F, PC, SP, and every byte of memory outside the one at the
address the instruction carries. -/
def Obligations.StaChangesOnlyItsByte : Prop :=
  ∀ (a16 : Addr) (s t : State), exec (.sta a16) s = .next t →
    s.KeepsRegistersBut t [] ∧ s.KeepsFlags t ∧ s.KeepsPc t ∧ s.KeepsSp t ∧ s.KeepsHalted t ∧
    s.KeepsCountAndTrace t ∧ ∀ x : Addr, x ≠ a16 → t.readByte x = s.readByte x

/-- Frame of `NOP`, `HLT` and the 225 unimplemented opcodes (R92 to R94): everything, but the halted bit
for `HLT`. -/
def Obligations.NopHltUnimplementedChangeNoData : Prop :=
  ∀ i : Instr, i = .nop ∨ i = .hlt ∨ i.isUnimplemented = true →
    ∀ s t : State, exec i s = .next t →
      s.KeepsRegistersBut t [] ∧ s.KeepsFlags t ∧ s.KeepsPc t ∧ s.KeepsSp t ∧ (i ≠ .hlt → s.KeepsHalted t) ∧
      s.KeepsCountAndTrace t ∧ s.KeepsMemory t
end

