-- ==== Sys2Proof/WellFormed.lean ====
section
/-! DEFINITION. Well-formedness. The operands of an instruction are bit vectors of the width of their
field and every value of it is legal (30_encoding.md R56, R58), so the one thing left to check is the
number of operand bytes, which the opcode byte alone decides (R50). -/

namespace Sys2Proof

/-- The instruction carries the operand bytes that the format of its opcode byte calls for. -/
def Instr.wf (i : Instr) : Bool :=
  i.operands.length == (formatOfOpcode i.opcode).operandCount

/-- A list of bytes is the encoding of one instruction: an opcode byte and exactly the operand bytes
of its format. -/
def wellFormedBytes : List Byte → Bool
  | [] => false
  | op :: rest => rest.length == (formatOfOpcode op).operandCount

end Sys2Proof
end

