-- ==== Sys2Proof/Laws/PerInstr.lean ====
section
/-! SUPPORT. Laws of the instruction as syntax, one lemma for each constructor of Instr.
Family OperandsFitFormat: an instruction carries the operand bytes that the format of its opcode byte
calls for (30_encoding.md R50: "a function of the opcode byte alone"), so every instruction is
well-formed. -/

namespace Sys2Proof.Laws

/-- The case split, once: the operand bytes fit the format. -/
theorem operands_length (i : Instr) :
    i.operands.length = (formatOfOpcode i.opcode).operandCount := by
  cases i <;> simp [Instr.operands, Instr.opcode, formatOfOpcode, Format.operandCount]

/-- Every instruction is well-formed: no instruction of the subset has a reserved operand (R58). -/
theorem instr_wf (i : Instr) : i.wf = true := by
  simp only [Instr.wf, operands_length, beq_self_eq_true]

/-- The instruction is well-formed. -/
def OperandsFitFormat.Statement (i : Instr) : Prop := i.wf = true

theorem OperandsFitFormat.nop : OperandsFitFormat.Statement .nop := instr_wf _
theorem OperandsFitFormat.lxiB (d16 : Word) : OperandsFitFormat.Statement (.lxiB d16) := instr_wf _
theorem OperandsFitFormat.unimplemented0x02 : OperandsFitFormat.Statement .unimplemented0x02 := instr_wf _
theorem OperandsFitFormat.unimplemented0x03 : OperandsFitFormat.Statement .unimplemented0x03 := instr_wf _
theorem OperandsFitFormat.unimplemented0x04 : OperandsFitFormat.Statement .unimplemented0x04 := instr_wf _
theorem OperandsFitFormat.unimplemented0x05 : OperandsFitFormat.Statement .unimplemented0x05 := instr_wf _
theorem OperandsFitFormat.mviB (d8 : Byte) : OperandsFitFormat.Statement (.mviB d8) := instr_wf _
theorem OperandsFitFormat.unimplemented0x07 : OperandsFitFormat.Statement .unimplemented0x07 := instr_wf _
theorem OperandsFitFormat.unimplemented0x08 : OperandsFitFormat.Statement .unimplemented0x08 := instr_wf _
theorem OperandsFitFormat.unimplemented0x09 : OperandsFitFormat.Statement .unimplemented0x09 := instr_wf _
theorem OperandsFitFormat.unimplemented0x0A : OperandsFitFormat.Statement .unimplemented0x0A := instr_wf _
theorem OperandsFitFormat.unimplemented0x0B : OperandsFitFormat.Statement .unimplemented0x0B := instr_wf _
theorem OperandsFitFormat.unimplemented0x0C : OperandsFitFormat.Statement .unimplemented0x0C := instr_wf _
theorem OperandsFitFormat.unimplemented0x0D : OperandsFitFormat.Statement .unimplemented0x0D := instr_wf _
theorem OperandsFitFormat.mviC (d8 : Byte) : OperandsFitFormat.Statement (.mviC d8) := instr_wf _
theorem OperandsFitFormat.unimplemented0x0F : OperandsFitFormat.Statement .unimplemented0x0F := instr_wf _
theorem OperandsFitFormat.unimplemented0x10 : OperandsFitFormat.Statement .unimplemented0x10 := instr_wf _
theorem OperandsFitFormat.lxiD (d16 : Word) : OperandsFitFormat.Statement (.lxiD d16) := instr_wf _
theorem OperandsFitFormat.unimplemented0x12 : OperandsFitFormat.Statement .unimplemented0x12 := instr_wf _
theorem OperandsFitFormat.unimplemented0x13 : OperandsFitFormat.Statement .unimplemented0x13 := instr_wf _
theorem OperandsFitFormat.unimplemented0x14 : OperandsFitFormat.Statement .unimplemented0x14 := instr_wf _
theorem OperandsFitFormat.unimplemented0x15 : OperandsFitFormat.Statement .unimplemented0x15 := instr_wf _
theorem OperandsFitFormat.mviD (d8 : Byte) : OperandsFitFormat.Statement (.mviD d8) := instr_wf _
theorem OperandsFitFormat.unimplemented0x17 : OperandsFitFormat.Statement .unimplemented0x17 := instr_wf _
theorem OperandsFitFormat.unimplemented0x18 : OperandsFitFormat.Statement .unimplemented0x18 := instr_wf _
theorem OperandsFitFormat.unimplemented0x19 : OperandsFitFormat.Statement .unimplemented0x19 := instr_wf _
theorem OperandsFitFormat.unimplemented0x1A : OperandsFitFormat.Statement .unimplemented0x1A := instr_wf _
theorem OperandsFitFormat.unimplemented0x1B : OperandsFitFormat.Statement .unimplemented0x1B := instr_wf _
theorem OperandsFitFormat.unimplemented0x1C : OperandsFitFormat.Statement .unimplemented0x1C := instr_wf _
theorem OperandsFitFormat.unimplemented0x1D : OperandsFitFormat.Statement .unimplemented0x1D := instr_wf _
theorem OperandsFitFormat.mviE (d8 : Byte) : OperandsFitFormat.Statement (.mviE d8) := instr_wf _
theorem OperandsFitFormat.unimplemented0x1F : OperandsFitFormat.Statement .unimplemented0x1F := instr_wf _
theorem OperandsFitFormat.unimplemented0x20 : OperandsFitFormat.Statement .unimplemented0x20 := instr_wf _
theorem OperandsFitFormat.lxiH (d16 : Word) : OperandsFitFormat.Statement (.lxiH d16) := instr_wf _
theorem OperandsFitFormat.unimplemented0x22 : OperandsFitFormat.Statement .unimplemented0x22 := instr_wf _
theorem OperandsFitFormat.unimplemented0x23 : OperandsFitFormat.Statement .unimplemented0x23 := instr_wf _
theorem OperandsFitFormat.unimplemented0x24 : OperandsFitFormat.Statement .unimplemented0x24 := instr_wf _
theorem OperandsFitFormat.unimplemented0x25 : OperandsFitFormat.Statement .unimplemented0x25 := instr_wf _
theorem OperandsFitFormat.mviH (d8 : Byte) : OperandsFitFormat.Statement (.mviH d8) := instr_wf _
theorem OperandsFitFormat.unimplemented0x27 : OperandsFitFormat.Statement .unimplemented0x27 := instr_wf _
theorem OperandsFitFormat.unimplemented0x28 : OperandsFitFormat.Statement .unimplemented0x28 := instr_wf _
theorem OperandsFitFormat.unimplemented0x29 : OperandsFitFormat.Statement .unimplemented0x29 := instr_wf _
theorem OperandsFitFormat.unimplemented0x2A : OperandsFitFormat.Statement .unimplemented0x2A := instr_wf _
theorem OperandsFitFormat.unimplemented0x2B : OperandsFitFormat.Statement .unimplemented0x2B := instr_wf _
theorem OperandsFitFormat.unimplemented0x2C : OperandsFitFormat.Statement .unimplemented0x2C := instr_wf _
theorem OperandsFitFormat.unimplemented0x2D : OperandsFitFormat.Statement .unimplemented0x2D := instr_wf _
theorem OperandsFitFormat.mviL (d8 : Byte) : OperandsFitFormat.Statement (.mviL d8) := instr_wf _
theorem OperandsFitFormat.unimplemented0x2F : OperandsFitFormat.Statement .unimplemented0x2F := instr_wf _
theorem OperandsFitFormat.unimplemented0x30 : OperandsFitFormat.Statement .unimplemented0x30 := instr_wf _
theorem OperandsFitFormat.lxiSP (d16 : Word) : OperandsFitFormat.Statement (.lxiSP d16) := instr_wf _
theorem OperandsFitFormat.sta (a16 : Addr) : OperandsFitFormat.Statement (.sta a16) := instr_wf _
theorem OperandsFitFormat.unimplemented0x33 : OperandsFitFormat.Statement .unimplemented0x33 := instr_wf _
theorem OperandsFitFormat.unimplemented0x34 : OperandsFitFormat.Statement .unimplemented0x34 := instr_wf _
theorem OperandsFitFormat.unimplemented0x35 : OperandsFitFormat.Statement .unimplemented0x35 := instr_wf _
theorem OperandsFitFormat.unimplemented0x36 : OperandsFitFormat.Statement .unimplemented0x36 := instr_wf _
theorem OperandsFitFormat.unimplemented0x37 : OperandsFitFormat.Statement .unimplemented0x37 := instr_wf _
theorem OperandsFitFormat.unimplemented0x38 : OperandsFitFormat.Statement .unimplemented0x38 := instr_wf _
theorem OperandsFitFormat.unimplemented0x39 : OperandsFitFormat.Statement .unimplemented0x39 := instr_wf _
theorem OperandsFitFormat.unimplemented0x3A : OperandsFitFormat.Statement .unimplemented0x3A := instr_wf _
theorem OperandsFitFormat.unimplemented0x3B : OperandsFitFormat.Statement .unimplemented0x3B := instr_wf _
theorem OperandsFitFormat.unimplemented0x3C : OperandsFitFormat.Statement .unimplemented0x3C := instr_wf _
theorem OperandsFitFormat.unimplemented0x3D : OperandsFitFormat.Statement .unimplemented0x3D := instr_wf _
theorem OperandsFitFormat.mviA (d8 : Byte) : OperandsFitFormat.Statement (.mviA d8) := instr_wf _
theorem OperandsFitFormat.unimplemented0x3F : OperandsFitFormat.Statement .unimplemented0x3F := instr_wf _
theorem OperandsFitFormat.unimplemented0x40 : OperandsFitFormat.Statement .unimplemented0x40 := instr_wf _
theorem OperandsFitFormat.unimplemented0x41 : OperandsFitFormat.Statement .unimplemented0x41 := instr_wf _
theorem OperandsFitFormat.unimplemented0x42 : OperandsFitFormat.Statement .unimplemented0x42 := instr_wf _
theorem OperandsFitFormat.unimplemented0x43 : OperandsFitFormat.Statement .unimplemented0x43 := instr_wf _
theorem OperandsFitFormat.unimplemented0x44 : OperandsFitFormat.Statement .unimplemented0x44 := instr_wf _
theorem OperandsFitFormat.unimplemented0x45 : OperandsFitFormat.Statement .unimplemented0x45 := instr_wf _
theorem OperandsFitFormat.unimplemented0x46 : OperandsFitFormat.Statement .unimplemented0x46 := instr_wf _
theorem OperandsFitFormat.unimplemented0x47 : OperandsFitFormat.Statement .unimplemented0x47 := instr_wf _
theorem OperandsFitFormat.unimplemented0x48 : OperandsFitFormat.Statement .unimplemented0x48 := instr_wf _
theorem OperandsFitFormat.unimplemented0x49 : OperandsFitFormat.Statement .unimplemented0x49 := instr_wf _
theorem OperandsFitFormat.unimplemented0x4A : OperandsFitFormat.Statement .unimplemented0x4A := instr_wf _
theorem OperandsFitFormat.unimplemented0x4B : OperandsFitFormat.Statement .unimplemented0x4B := instr_wf _
theorem OperandsFitFormat.unimplemented0x4C : OperandsFitFormat.Statement .unimplemented0x4C := instr_wf _
theorem OperandsFitFormat.unimplemented0x4D : OperandsFitFormat.Statement .unimplemented0x4D := instr_wf _
theorem OperandsFitFormat.unimplemented0x4E : OperandsFitFormat.Statement .unimplemented0x4E := instr_wf _
theorem OperandsFitFormat.unimplemented0x4F : OperandsFitFormat.Statement .unimplemented0x4F := instr_wf _
theorem OperandsFitFormat.unimplemented0x50 : OperandsFitFormat.Statement .unimplemented0x50 := instr_wf _
theorem OperandsFitFormat.unimplemented0x51 : OperandsFitFormat.Statement .unimplemented0x51 := instr_wf _
theorem OperandsFitFormat.unimplemented0x52 : OperandsFitFormat.Statement .unimplemented0x52 := instr_wf _
theorem OperandsFitFormat.unimplemented0x53 : OperandsFitFormat.Statement .unimplemented0x53 := instr_wf _
theorem OperandsFitFormat.unimplemented0x54 : OperandsFitFormat.Statement .unimplemented0x54 := instr_wf _
theorem OperandsFitFormat.unimplemented0x55 : OperandsFitFormat.Statement .unimplemented0x55 := instr_wf _
theorem OperandsFitFormat.unimplemented0x56 : OperandsFitFormat.Statement .unimplemented0x56 := instr_wf _
theorem OperandsFitFormat.unimplemented0x57 : OperandsFitFormat.Statement .unimplemented0x57 := instr_wf _
theorem OperandsFitFormat.unimplemented0x58 : OperandsFitFormat.Statement .unimplemented0x58 := instr_wf _
theorem OperandsFitFormat.unimplemented0x59 : OperandsFitFormat.Statement .unimplemented0x59 := instr_wf _
theorem OperandsFitFormat.unimplemented0x5A : OperandsFitFormat.Statement .unimplemented0x5A := instr_wf _
theorem OperandsFitFormat.unimplemented0x5B : OperandsFitFormat.Statement .unimplemented0x5B := instr_wf _
theorem OperandsFitFormat.unimplemented0x5C : OperandsFitFormat.Statement .unimplemented0x5C := instr_wf _
theorem OperandsFitFormat.unimplemented0x5D : OperandsFitFormat.Statement .unimplemented0x5D := instr_wf _
theorem OperandsFitFormat.unimplemented0x5E : OperandsFitFormat.Statement .unimplemented0x5E := instr_wf _
theorem OperandsFitFormat.unimplemented0x5F : OperandsFitFormat.Statement .unimplemented0x5F := instr_wf _
theorem OperandsFitFormat.unimplemented0x60 : OperandsFitFormat.Statement .unimplemented0x60 := instr_wf _
theorem OperandsFitFormat.unimplemented0x61 : OperandsFitFormat.Statement .unimplemented0x61 := instr_wf _
theorem OperandsFitFormat.unimplemented0x62 : OperandsFitFormat.Statement .unimplemented0x62 := instr_wf _
theorem OperandsFitFormat.unimplemented0x63 : OperandsFitFormat.Statement .unimplemented0x63 := instr_wf _
theorem OperandsFitFormat.unimplemented0x64 : OperandsFitFormat.Statement .unimplemented0x64 := instr_wf _
theorem OperandsFitFormat.unimplemented0x65 : OperandsFitFormat.Statement .unimplemented0x65 := instr_wf _
theorem OperandsFitFormat.unimplemented0x66 : OperandsFitFormat.Statement .unimplemented0x66 := instr_wf _
theorem OperandsFitFormat.unimplemented0x67 : OperandsFitFormat.Statement .unimplemented0x67 := instr_wf _
theorem OperandsFitFormat.unimplemented0x68 : OperandsFitFormat.Statement .unimplemented0x68 := instr_wf _
theorem OperandsFitFormat.unimplemented0x69 : OperandsFitFormat.Statement .unimplemented0x69 := instr_wf _
theorem OperandsFitFormat.unimplemented0x6A : OperandsFitFormat.Statement .unimplemented0x6A := instr_wf _
theorem OperandsFitFormat.unimplemented0x6B : OperandsFitFormat.Statement .unimplemented0x6B := instr_wf _
theorem OperandsFitFormat.unimplemented0x6C : OperandsFitFormat.Statement .unimplemented0x6C := instr_wf _
theorem OperandsFitFormat.unimplemented0x6D : OperandsFitFormat.Statement .unimplemented0x6D := instr_wf _
theorem OperandsFitFormat.unimplemented0x6E : OperandsFitFormat.Statement .unimplemented0x6E := instr_wf _
theorem OperandsFitFormat.unimplemented0x6F : OperandsFitFormat.Statement .unimplemented0x6F := instr_wf _
theorem OperandsFitFormat.unimplemented0x70 : OperandsFitFormat.Statement .unimplemented0x70 := instr_wf _
theorem OperandsFitFormat.unimplemented0x71 : OperandsFitFormat.Statement .unimplemented0x71 := instr_wf _
theorem OperandsFitFormat.unimplemented0x72 : OperandsFitFormat.Statement .unimplemented0x72 := instr_wf _
theorem OperandsFitFormat.unimplemented0x73 : OperandsFitFormat.Statement .unimplemented0x73 := instr_wf _
theorem OperandsFitFormat.unimplemented0x74 : OperandsFitFormat.Statement .unimplemented0x74 := instr_wf _
theorem OperandsFitFormat.unimplemented0x75 : OperandsFitFormat.Statement .unimplemented0x75 := instr_wf _
theorem OperandsFitFormat.hlt : OperandsFitFormat.Statement .hlt := instr_wf _
theorem OperandsFitFormat.unimplemented0x77 : OperandsFitFormat.Statement .unimplemented0x77 := instr_wf _
theorem OperandsFitFormat.movAB : OperandsFitFormat.Statement .movAB := instr_wf _
theorem OperandsFitFormat.movAC : OperandsFitFormat.Statement .movAC := instr_wf _
theorem OperandsFitFormat.movAD : OperandsFitFormat.Statement .movAD := instr_wf _
theorem OperandsFitFormat.movAE : OperandsFitFormat.Statement .movAE := instr_wf _
theorem OperandsFitFormat.movAH : OperandsFitFormat.Statement .movAH := instr_wf _
theorem OperandsFitFormat.movAL : OperandsFitFormat.Statement .movAL := instr_wf _
theorem OperandsFitFormat.movAM : OperandsFitFormat.Statement .movAM := instr_wf _
theorem OperandsFitFormat.movAA : OperandsFitFormat.Statement .movAA := instr_wf _
theorem OperandsFitFormat.addB : OperandsFitFormat.Statement .addB := instr_wf _
theorem OperandsFitFormat.addC : OperandsFitFormat.Statement .addC := instr_wf _
theorem OperandsFitFormat.addD : OperandsFitFormat.Statement .addD := instr_wf _
theorem OperandsFitFormat.addE : OperandsFitFormat.Statement .addE := instr_wf _
theorem OperandsFitFormat.addH : OperandsFitFormat.Statement .addH := instr_wf _
theorem OperandsFitFormat.addL : OperandsFitFormat.Statement .addL := instr_wf _
theorem OperandsFitFormat.addM : OperandsFitFormat.Statement .addM := instr_wf _
theorem OperandsFitFormat.addA : OperandsFitFormat.Statement .addA := instr_wf _
theorem OperandsFitFormat.unimplemented0x88 : OperandsFitFormat.Statement .unimplemented0x88 := instr_wf _
theorem OperandsFitFormat.unimplemented0x89 : OperandsFitFormat.Statement .unimplemented0x89 := instr_wf _
theorem OperandsFitFormat.unimplemented0x8A : OperandsFitFormat.Statement .unimplemented0x8A := instr_wf _
theorem OperandsFitFormat.unimplemented0x8B : OperandsFitFormat.Statement .unimplemented0x8B := instr_wf _
theorem OperandsFitFormat.unimplemented0x8C : OperandsFitFormat.Statement .unimplemented0x8C := instr_wf _
theorem OperandsFitFormat.unimplemented0x8D : OperandsFitFormat.Statement .unimplemented0x8D := instr_wf _
theorem OperandsFitFormat.unimplemented0x8E : OperandsFitFormat.Statement .unimplemented0x8E := instr_wf _
theorem OperandsFitFormat.unimplemented0x8F : OperandsFitFormat.Statement .unimplemented0x8F := instr_wf _
theorem OperandsFitFormat.unimplemented0x90 : OperandsFitFormat.Statement .unimplemented0x90 := instr_wf _
theorem OperandsFitFormat.unimplemented0x91 : OperandsFitFormat.Statement .unimplemented0x91 := instr_wf _
theorem OperandsFitFormat.unimplemented0x92 : OperandsFitFormat.Statement .unimplemented0x92 := instr_wf _
theorem OperandsFitFormat.unimplemented0x93 : OperandsFitFormat.Statement .unimplemented0x93 := instr_wf _
theorem OperandsFitFormat.unimplemented0x94 : OperandsFitFormat.Statement .unimplemented0x94 := instr_wf _
theorem OperandsFitFormat.unimplemented0x95 : OperandsFitFormat.Statement .unimplemented0x95 := instr_wf _
theorem OperandsFitFormat.unimplemented0x96 : OperandsFitFormat.Statement .unimplemented0x96 := instr_wf _
theorem OperandsFitFormat.unimplemented0x97 : OperandsFitFormat.Statement .unimplemented0x97 := instr_wf _
theorem OperandsFitFormat.unimplemented0x98 : OperandsFitFormat.Statement .unimplemented0x98 := instr_wf _
theorem OperandsFitFormat.unimplemented0x99 : OperandsFitFormat.Statement .unimplemented0x99 := instr_wf _
theorem OperandsFitFormat.unimplemented0x9A : OperandsFitFormat.Statement .unimplemented0x9A := instr_wf _
theorem OperandsFitFormat.unimplemented0x9B : OperandsFitFormat.Statement .unimplemented0x9B := instr_wf _
theorem OperandsFitFormat.unimplemented0x9C : OperandsFitFormat.Statement .unimplemented0x9C := instr_wf _
theorem OperandsFitFormat.unimplemented0x9D : OperandsFitFormat.Statement .unimplemented0x9D := instr_wf _
theorem OperandsFitFormat.unimplemented0x9E : OperandsFitFormat.Statement .unimplemented0x9E := instr_wf _
theorem OperandsFitFormat.unimplemented0x9F : OperandsFitFormat.Statement .unimplemented0x9F := instr_wf _
theorem OperandsFitFormat.unimplemented0xA0 : OperandsFitFormat.Statement .unimplemented0xA0 := instr_wf _
theorem OperandsFitFormat.unimplemented0xA1 : OperandsFitFormat.Statement .unimplemented0xA1 := instr_wf _
theorem OperandsFitFormat.unimplemented0xA2 : OperandsFitFormat.Statement .unimplemented0xA2 := instr_wf _
theorem OperandsFitFormat.unimplemented0xA3 : OperandsFitFormat.Statement .unimplemented0xA3 := instr_wf _
theorem OperandsFitFormat.unimplemented0xA4 : OperandsFitFormat.Statement .unimplemented0xA4 := instr_wf _
theorem OperandsFitFormat.unimplemented0xA5 : OperandsFitFormat.Statement .unimplemented0xA5 := instr_wf _
theorem OperandsFitFormat.unimplemented0xA6 : OperandsFitFormat.Statement .unimplemented0xA6 := instr_wf _
theorem OperandsFitFormat.unimplemented0xA7 : OperandsFitFormat.Statement .unimplemented0xA7 := instr_wf _
theorem OperandsFitFormat.unimplemented0xA8 : OperandsFitFormat.Statement .unimplemented0xA8 := instr_wf _
theorem OperandsFitFormat.unimplemented0xA9 : OperandsFitFormat.Statement .unimplemented0xA9 := instr_wf _
theorem OperandsFitFormat.unimplemented0xAA : OperandsFitFormat.Statement .unimplemented0xAA := instr_wf _
theorem OperandsFitFormat.unimplemented0xAB : OperandsFitFormat.Statement .unimplemented0xAB := instr_wf _
theorem OperandsFitFormat.unimplemented0xAC : OperandsFitFormat.Statement .unimplemented0xAC := instr_wf _
theorem OperandsFitFormat.unimplemented0xAD : OperandsFitFormat.Statement .unimplemented0xAD := instr_wf _
theorem OperandsFitFormat.unimplemented0xAE : OperandsFitFormat.Statement .unimplemented0xAE := instr_wf _
theorem OperandsFitFormat.unimplemented0xAF : OperandsFitFormat.Statement .unimplemented0xAF := instr_wf _
theorem OperandsFitFormat.unimplemented0xB0 : OperandsFitFormat.Statement .unimplemented0xB0 := instr_wf _
theorem OperandsFitFormat.unimplemented0xB1 : OperandsFitFormat.Statement .unimplemented0xB1 := instr_wf _
theorem OperandsFitFormat.unimplemented0xB2 : OperandsFitFormat.Statement .unimplemented0xB2 := instr_wf _
theorem OperandsFitFormat.unimplemented0xB3 : OperandsFitFormat.Statement .unimplemented0xB3 := instr_wf _
theorem OperandsFitFormat.unimplemented0xB4 : OperandsFitFormat.Statement .unimplemented0xB4 := instr_wf _
theorem OperandsFitFormat.unimplemented0xB5 : OperandsFitFormat.Statement .unimplemented0xB5 := instr_wf _
theorem OperandsFitFormat.unimplemented0xB6 : OperandsFitFormat.Statement .unimplemented0xB6 := instr_wf _
theorem OperandsFitFormat.unimplemented0xB7 : OperandsFitFormat.Statement .unimplemented0xB7 := instr_wf _
theorem OperandsFitFormat.unimplemented0xB8 : OperandsFitFormat.Statement .unimplemented0xB8 := instr_wf _
theorem OperandsFitFormat.unimplemented0xB9 : OperandsFitFormat.Statement .unimplemented0xB9 := instr_wf _
theorem OperandsFitFormat.unimplemented0xBA : OperandsFitFormat.Statement .unimplemented0xBA := instr_wf _
theorem OperandsFitFormat.unimplemented0xBB : OperandsFitFormat.Statement .unimplemented0xBB := instr_wf _
theorem OperandsFitFormat.unimplemented0xBC : OperandsFitFormat.Statement .unimplemented0xBC := instr_wf _
theorem OperandsFitFormat.unimplemented0xBD : OperandsFitFormat.Statement .unimplemented0xBD := instr_wf _
theorem OperandsFitFormat.unimplemented0xBE : OperandsFitFormat.Statement .unimplemented0xBE := instr_wf _
theorem OperandsFitFormat.unimplemented0xBF : OperandsFitFormat.Statement .unimplemented0xBF := instr_wf _
theorem OperandsFitFormat.unimplemented0xC0 : OperandsFitFormat.Statement .unimplemented0xC0 := instr_wf _
theorem OperandsFitFormat.unimplemented0xC1 : OperandsFitFormat.Statement .unimplemented0xC1 := instr_wf _
theorem OperandsFitFormat.unimplemented0xC2 : OperandsFitFormat.Statement .unimplemented0xC2 := instr_wf _
theorem OperandsFitFormat.unimplemented0xC3 : OperandsFitFormat.Statement .unimplemented0xC3 := instr_wf _
theorem OperandsFitFormat.unimplemented0xC4 : OperandsFitFormat.Statement .unimplemented0xC4 := instr_wf _
theorem OperandsFitFormat.unimplemented0xC5 : OperandsFitFormat.Statement .unimplemented0xC5 := instr_wf _
theorem OperandsFitFormat.adi (d8 : Byte) : OperandsFitFormat.Statement (.adi d8) := instr_wf _
theorem OperandsFitFormat.unimplemented0xC7 : OperandsFitFormat.Statement .unimplemented0xC7 := instr_wf _
theorem OperandsFitFormat.unimplemented0xC8 : OperandsFitFormat.Statement .unimplemented0xC8 := instr_wf _
theorem OperandsFitFormat.unimplemented0xC9 : OperandsFitFormat.Statement .unimplemented0xC9 := instr_wf _
theorem OperandsFitFormat.unimplemented0xCA : OperandsFitFormat.Statement .unimplemented0xCA := instr_wf _
theorem OperandsFitFormat.unimplemented0xCB : OperandsFitFormat.Statement .unimplemented0xCB := instr_wf _
theorem OperandsFitFormat.unimplemented0xCC : OperandsFitFormat.Statement .unimplemented0xCC := instr_wf _
theorem OperandsFitFormat.unimplemented0xCD : OperandsFitFormat.Statement .unimplemented0xCD := instr_wf _
theorem OperandsFitFormat.unimplemented0xCE : OperandsFitFormat.Statement .unimplemented0xCE := instr_wf _
theorem OperandsFitFormat.unimplemented0xCF : OperandsFitFormat.Statement .unimplemented0xCF := instr_wf _
theorem OperandsFitFormat.unimplemented0xD0 : OperandsFitFormat.Statement .unimplemented0xD0 := instr_wf _
theorem OperandsFitFormat.unimplemented0xD1 : OperandsFitFormat.Statement .unimplemented0xD1 := instr_wf _
theorem OperandsFitFormat.unimplemented0xD2 : OperandsFitFormat.Statement .unimplemented0xD2 := instr_wf _
theorem OperandsFitFormat.unimplemented0xD3 : OperandsFitFormat.Statement .unimplemented0xD3 := instr_wf _
theorem OperandsFitFormat.unimplemented0xD4 : OperandsFitFormat.Statement .unimplemented0xD4 := instr_wf _
theorem OperandsFitFormat.unimplemented0xD5 : OperandsFitFormat.Statement .unimplemented0xD5 := instr_wf _
theorem OperandsFitFormat.unimplemented0xD6 : OperandsFitFormat.Statement .unimplemented0xD6 := instr_wf _
theorem OperandsFitFormat.unimplemented0xD7 : OperandsFitFormat.Statement .unimplemented0xD7 := instr_wf _
theorem OperandsFitFormat.unimplemented0xD8 : OperandsFitFormat.Statement .unimplemented0xD8 := instr_wf _
theorem OperandsFitFormat.unimplemented0xD9 : OperandsFitFormat.Statement .unimplemented0xD9 := instr_wf _
theorem OperandsFitFormat.unimplemented0xDA : OperandsFitFormat.Statement .unimplemented0xDA := instr_wf _
theorem OperandsFitFormat.unimplemented0xDB : OperandsFitFormat.Statement .unimplemented0xDB := instr_wf _
theorem OperandsFitFormat.unimplemented0xDC : OperandsFitFormat.Statement .unimplemented0xDC := instr_wf _
theorem OperandsFitFormat.unimplemented0xDD : OperandsFitFormat.Statement .unimplemented0xDD := instr_wf _
theorem OperandsFitFormat.unimplemented0xDE : OperandsFitFormat.Statement .unimplemented0xDE := instr_wf _
theorem OperandsFitFormat.unimplemented0xDF : OperandsFitFormat.Statement .unimplemented0xDF := instr_wf _
theorem OperandsFitFormat.unimplemented0xE0 : OperandsFitFormat.Statement .unimplemented0xE0 := instr_wf _
theorem OperandsFitFormat.unimplemented0xE1 : OperandsFitFormat.Statement .unimplemented0xE1 := instr_wf _
theorem OperandsFitFormat.unimplemented0xE2 : OperandsFitFormat.Statement .unimplemented0xE2 := instr_wf _
theorem OperandsFitFormat.unimplemented0xE3 : OperandsFitFormat.Statement .unimplemented0xE3 := instr_wf _
theorem OperandsFitFormat.unimplemented0xE4 : OperandsFitFormat.Statement .unimplemented0xE4 := instr_wf _
theorem OperandsFitFormat.unimplemented0xE5 : OperandsFitFormat.Statement .unimplemented0xE5 := instr_wf _
theorem OperandsFitFormat.unimplemented0xE6 : OperandsFitFormat.Statement .unimplemented0xE6 := instr_wf _
theorem OperandsFitFormat.unimplemented0xE7 : OperandsFitFormat.Statement .unimplemented0xE7 := instr_wf _
theorem OperandsFitFormat.unimplemented0xE8 : OperandsFitFormat.Statement .unimplemented0xE8 := instr_wf _
theorem OperandsFitFormat.unimplemented0xE9 : OperandsFitFormat.Statement .unimplemented0xE9 := instr_wf _
theorem OperandsFitFormat.unimplemented0xEA : OperandsFitFormat.Statement .unimplemented0xEA := instr_wf _
theorem OperandsFitFormat.unimplemented0xEB : OperandsFitFormat.Statement .unimplemented0xEB := instr_wf _
theorem OperandsFitFormat.unimplemented0xEC : OperandsFitFormat.Statement .unimplemented0xEC := instr_wf _
theorem OperandsFitFormat.unimplemented0xED : OperandsFitFormat.Statement .unimplemented0xED := instr_wf _
theorem OperandsFitFormat.unimplemented0xEE : OperandsFitFormat.Statement .unimplemented0xEE := instr_wf _
theorem OperandsFitFormat.unimplemented0xEF : OperandsFitFormat.Statement .unimplemented0xEF := instr_wf _
theorem OperandsFitFormat.unimplemented0xF0 : OperandsFitFormat.Statement .unimplemented0xF0 := instr_wf _
theorem OperandsFitFormat.unimplemented0xF1 : OperandsFitFormat.Statement .unimplemented0xF1 := instr_wf _
theorem OperandsFitFormat.unimplemented0xF2 : OperandsFitFormat.Statement .unimplemented0xF2 := instr_wf _
theorem OperandsFitFormat.unimplemented0xF3 : OperandsFitFormat.Statement .unimplemented0xF3 := instr_wf _
theorem OperandsFitFormat.unimplemented0xF4 : OperandsFitFormat.Statement .unimplemented0xF4 := instr_wf _
theorem OperandsFitFormat.unimplemented0xF5 : OperandsFitFormat.Statement .unimplemented0xF5 := instr_wf _
theorem OperandsFitFormat.unimplemented0xF6 : OperandsFitFormat.Statement .unimplemented0xF6 := instr_wf _
theorem OperandsFitFormat.unimplemented0xF7 : OperandsFitFormat.Statement .unimplemented0xF7 := instr_wf _
theorem OperandsFitFormat.unimplemented0xF8 : OperandsFitFormat.Statement .unimplemented0xF8 := instr_wf _
theorem OperandsFitFormat.unimplemented0xF9 : OperandsFitFormat.Statement .unimplemented0xF9 := instr_wf _
theorem OperandsFitFormat.unimplemented0xFA : OperandsFitFormat.Statement .unimplemented0xFA := instr_wf _
theorem OperandsFitFormat.unimplemented0xFB : OperandsFitFormat.Statement .unimplemented0xFB := instr_wf _
theorem OperandsFitFormat.unimplemented0xFC : OperandsFitFormat.Statement .unimplemented0xFC := instr_wf _
theorem OperandsFitFormat.unimplemented0xFD : OperandsFitFormat.Statement .unimplemented0xFD := instr_wf _
theorem OperandsFitFormat.unimplemented0xFE : OperandsFitFormat.Statement .unimplemented0xFE := instr_wf _
theorem OperandsFitFormat.unimplemented0xFF : OperandsFitFormat.Statement .unimplemented0xFF := instr_wf _

end Sys2Proof.Laws
end

