-- ==== Sys2Proof/Laws/Decode.lean ====
section
/-! SUPPORT. The laws of the byte-order helpers, of the opcode map and of the format of an opcode. -/

namespace Sys2Proof

/-! ### Byte order (R7, R32) -/

/-- `hi:lo` is the word `hi*256 + lo` (R7). -/
theorem toNat_wordOfBytes (hi lo : Byte) :
    (wordOfBytes hi lo).toNat = hi.toNat * 256 + lo.toNat := by
  have happ : (wordOfBytes hi lo).toNat = hi.toNat <<< 8 ||| lo.toNat := BitVec.toNat_append hi lo
  rw [happ, ← Nat.shiftLeft_add_eq_or_of_lt lo.isLt, Nat.shiftLeft_eq]

theorem toNat_hiByte (w : Word) : (hiByte w).toNat = w.toNat / 256 := by
  have := w.isLt
  rw [hiByte, BitVec.extractLsb'_toNat, Nat.shiftRight_eq_div_pow]
  omega

theorem toNat_loByte (w : Word) : (loByte w).toNat = w.toNat % 256 := by
  rw [loByte, BitVec.extractLsb'_toNat, Nat.shiftRight_zero]

@[simp] theorem hiByte_wordOfBytes (hi lo : Byte) : hiByte (wordOfBytes hi lo) = hi := by
  apply BitVec.eq_of_toNat_eq
  rw [toNat_hiByte, toNat_wordOfBytes]
  omega

@[simp] theorem loByte_wordOfBytes (hi lo : Byte) : loByte (wordOfBytes hi lo) = lo := by
  apply BitVec.eq_of_toNat_eq
  rw [toNat_loByte, toNat_wordOfBytes]
  omega

/-- A word is put together from its own halves. -/
@[simp] theorem wordOfBytes_halves (w : Word) : wordOfBytes (hiByte w) (loByte w) = w := by
  apply BitVec.eq_of_toNat_eq
  rw [toNat_wordOfBytes, toNat_hiByte, toNat_loByte]
  omega

theorem wordOfBytes_eq_ofNat (hi lo : Byte) :
    wordOfBytes hi lo = BitVec.ofNat 16 (hi.toNat * 256 + lo.toNat) := by
  rw [← toNat_wordOfBytes, BitVec.ofNat_toNat, BitVec.setWidth_eq]

/-! ### The opcode map -/

/-! Each row of the map gives each opcode byte the instruction that the encoder gives that byte, with
the operand bytes that its format takes. -/

theorem opcodeRow0_spec (low : Nat) (b1 b2 : Byte) (h : low < 16) :
    (opcodeRow0 low b1 b2).opcode = BitVec.ofNat 8 (0x00 + low) ∧
      (opcodeRow0 low b1 b2).operands =
        [b1, b2].take (formatOfOpcode (BitVec.ofNat 8 (0x00 + low))).operandCount := by
  interval_cases low <;> refine ⟨rfl, ?_⟩ <;> first
    | rfl
    | simp [opcodeRow0, Instr.operands, formatOfOpcode, Format.operandCount]

theorem opcodeRow1_spec (low : Nat) (b1 b2 : Byte) (h : low < 16) :
    (opcodeRow1 low b1 b2).opcode = BitVec.ofNat 8 (0x10 + low) ∧
      (opcodeRow1 low b1 b2).operands =
        [b1, b2].take (formatOfOpcode (BitVec.ofNat 8 (0x10 + low))).operandCount := by
  interval_cases low <;> refine ⟨rfl, ?_⟩ <;> first
    | rfl
    | simp [opcodeRow1, Instr.operands, formatOfOpcode, Format.operandCount]

theorem opcodeRow2_spec (low : Nat) (b1 b2 : Byte) (h : low < 16) :
    (opcodeRow2 low b1 b2).opcode = BitVec.ofNat 8 (0x20 + low) ∧
      (opcodeRow2 low b1 b2).operands =
        [b1, b2].take (formatOfOpcode (BitVec.ofNat 8 (0x20 + low))).operandCount := by
  interval_cases low <;> refine ⟨rfl, ?_⟩ <;> first
    | rfl
    | simp [opcodeRow2, Instr.operands, formatOfOpcode, Format.operandCount]

theorem opcodeRow3_spec (low : Nat) (b1 b2 : Byte) (h : low < 16) :
    (opcodeRow3 low b1 b2).opcode = BitVec.ofNat 8 (0x30 + low) ∧
      (opcodeRow3 low b1 b2).operands =
        [b1, b2].take (formatOfOpcode (BitVec.ofNat 8 (0x30 + low))).operandCount := by
  interval_cases low <;> refine ⟨rfl, ?_⟩ <;> first
    | rfl
    | simp [opcodeRow3, Instr.operands, formatOfOpcode, Format.operandCount]

theorem opcodeRow4_spec (low : Nat) (b1 b2 : Byte) (h : low < 16) :
    (opcodeRow4 low b1 b2).opcode = BitVec.ofNat 8 (0x40 + low) ∧
      (opcodeRow4 low b1 b2).operands =
        [b1, b2].take (formatOfOpcode (BitVec.ofNat 8 (0x40 + low))).operandCount := by
  interval_cases low <;> exact ⟨rfl, rfl⟩

theorem opcodeRow5_spec (low : Nat) (b1 b2 : Byte) (h : low < 16) :
    (opcodeRow5 low b1 b2).opcode = BitVec.ofNat 8 (0x50 + low) ∧
      (opcodeRow5 low b1 b2).operands =
        [b1, b2].take (formatOfOpcode (BitVec.ofNat 8 (0x50 + low))).operandCount := by
  interval_cases low <;> exact ⟨rfl, rfl⟩

theorem opcodeRow6_spec (low : Nat) (b1 b2 : Byte) (h : low < 16) :
    (opcodeRow6 low b1 b2).opcode = BitVec.ofNat 8 (0x60 + low) ∧
      (opcodeRow6 low b1 b2).operands =
        [b1, b2].take (formatOfOpcode (BitVec.ofNat 8 (0x60 + low))).operandCount := by
  interval_cases low <;> exact ⟨rfl, rfl⟩

theorem opcodeRow7_spec (low : Nat) (b1 b2 : Byte) (h : low < 16) :
    (opcodeRow7 low b1 b2).opcode = BitVec.ofNat 8 (0x70 + low) ∧
      (opcodeRow7 low b1 b2).operands =
        [b1, b2].take (formatOfOpcode (BitVec.ofNat 8 (0x70 + low))).operandCount := by
  interval_cases low <;> exact ⟨rfl, rfl⟩

theorem opcodeRow8_spec (low : Nat) (b1 b2 : Byte) (h : low < 16) :
    (opcodeRow8 low b1 b2).opcode = BitVec.ofNat 8 (0x80 + low) ∧
      (opcodeRow8 low b1 b2).operands =
        [b1, b2].take (formatOfOpcode (BitVec.ofNat 8 (0x80 + low))).operandCount := by
  interval_cases low <;> exact ⟨rfl, rfl⟩

theorem opcodeRow9_spec (low : Nat) (b1 b2 : Byte) (h : low < 16) :
    (opcodeRow9 low b1 b2).opcode = BitVec.ofNat 8 (0x90 + low) ∧
      (opcodeRow9 low b1 b2).operands =
        [b1, b2].take (formatOfOpcode (BitVec.ofNat 8 (0x90 + low))).operandCount := by
  interval_cases low <;> exact ⟨rfl, rfl⟩

theorem opcodeRowA_spec (low : Nat) (b1 b2 : Byte) (h : low < 16) :
    (opcodeRowA low b1 b2).opcode = BitVec.ofNat 8 (0xA0 + low) ∧
      (opcodeRowA low b1 b2).operands =
        [b1, b2].take (formatOfOpcode (BitVec.ofNat 8 (0xA0 + low))).operandCount := by
  interval_cases low <;> exact ⟨rfl, rfl⟩

theorem opcodeRowB_spec (low : Nat) (b1 b2 : Byte) (h : low < 16) :
    (opcodeRowB low b1 b2).opcode = BitVec.ofNat 8 (0xB0 + low) ∧
      (opcodeRowB low b1 b2).operands =
        [b1, b2].take (formatOfOpcode (BitVec.ofNat 8 (0xB0 + low))).operandCount := by
  interval_cases low <;> exact ⟨rfl, rfl⟩

theorem opcodeRowC_spec (low : Nat) (b1 b2 : Byte) (h : low < 16) :
    (opcodeRowC low b1 b2).opcode = BitVec.ofNat 8 (0xC0 + low) ∧
      (opcodeRowC low b1 b2).operands =
        [b1, b2].take (formatOfOpcode (BitVec.ofNat 8 (0xC0 + low))).operandCount := by
  interval_cases low <;> exact ⟨rfl, rfl⟩

theorem opcodeRowD_spec (low : Nat) (b1 b2 : Byte) (h : low < 16) :
    (opcodeRowD low b1 b2).opcode = BitVec.ofNat 8 (0xD0 + low) ∧
      (opcodeRowD low b1 b2).operands =
        [b1, b2].take (formatOfOpcode (BitVec.ofNat 8 (0xD0 + low))).operandCount := by
  interval_cases low <;> exact ⟨rfl, rfl⟩

theorem opcodeRowE_spec (low : Nat) (b1 b2 : Byte) (h : low < 16) :
    (opcodeRowE low b1 b2).opcode = BitVec.ofNat 8 (0xE0 + low) ∧
      (opcodeRowE low b1 b2).operands =
        [b1, b2].take (formatOfOpcode (BitVec.ofNat 8 (0xE0 + low))).operandCount := by
  interval_cases low <;> exact ⟨rfl, rfl⟩

theorem opcodeRowF_spec (low : Nat) (b1 b2 : Byte) (h : low < 16) :
    (opcodeRowF low b1 b2).opcode = BitVec.ofNat 8 (0xF0 + low) ∧
      (opcodeRowF low b1 b2).operands =
        [b1, b2].take (formatOfOpcode (BitVec.ofNat 8 (0xF0 + low))).operandCount := by
  interval_cases low <;> exact ⟨rfl, rfl⟩

/-- A byte is its two hexadecimal digits. -/
theorem byte_eq_digits (op : Byte) (high : Nat) (h : op.toNat / 16 = high) :
    op = BitVec.ofNat 8 (high * 16 + op.toNat % 16) := by
  apply BitVec.eq_of_toNat_eq
  rw [BitVec.toNat_ofNat]
  omega

/-- The opcode map gives each opcode byte the instruction whose opcode byte it is (R54, R57), with
the operand bytes that the format of the byte takes (R50). -/
theorem instrOfBytes_spec (op b1 b2 : Byte) :
    (instrOfBytes op b1 b2).opcode = op ∧
      (instrOfBytes op b1 b2).operands = [b1, b2].take (formatOfOpcode op).operandCount := by
  have hlow : op.toNat % 16 < 16 := Nat.mod_lt _ (by decide)
  have hhigh : op.toNat / 16 < 16 := by omega
  generalize hq : op.toNat / 16 = high at hhigh
  have hop := byte_eq_digits op high hq
  generalize hr : op.toNat % 16 = low at hlow hop
  rw [instrOfBytes, hq, hr, hop]
  interval_cases high
  · exact opcodeRow0_spec low b1 b2 hlow
  · exact opcodeRow1_spec low b1 b2 hlow
  · exact opcodeRow2_spec low b1 b2 hlow
  · exact opcodeRow3_spec low b1 b2 hlow
  · exact opcodeRow4_spec low b1 b2 hlow
  · exact opcodeRow5_spec low b1 b2 hlow
  · exact opcodeRow6_spec low b1 b2 hlow
  · exact opcodeRow7_spec low b1 b2 hlow
  · exact opcodeRow8_spec low b1 b2 hlow
  · exact opcodeRow9_spec low b1 b2 hlow
  · exact opcodeRowA_spec low b1 b2 hlow
  · exact opcodeRowB_spec low b1 b2 hlow
  · exact opcodeRowC_spec low b1 b2 hlow
  · exact opcodeRowD_spec low b1 b2 hlow
  · exact opcodeRowE_spec low b1 b2 hlow
  · exact opcodeRowF_spec low b1 b2 hlow

theorem opcode_instrOfBytes (op b1 b2 : Byte) : (instrOfBytes op b1 b2).opcode = op :=
  (instrOfBytes_spec op b1 b2).1

theorem operands_instrOfBytes (op b1 b2 : Byte) :
    (instrOfBytes op b1 b2).operands = [b1, b2].take (formatOfOpcode op).operandCount :=
  (instrOfBytes_spec op b1 b2).2

/-- The length of the instruction is decided by byte 0 alone (R50, R59). -/
theorem length_instrOfBytes (op b1 b2 : Byte) :
    (instrOfBytes op b1 b2).length = 1 + (formatOfOpcode op).operandCount := by
  rw [Instr.length, operands_instrOfBytes, List.length_take]
  cases formatOfOpcode op <;> rfl

end Sys2Proof
end

