-- ==== Sys2Proof/Laws/Memory.lean ====
section
/-! SUPPORT. The laws of memory (20_memory.md R31): a read after a write, the write's frame, and that every
memory operation keeps the canonical form. -/

namespace Sys2Proof.Machine

/-! ### Reading after a write -/

@[simp] theorem Memory.lookup_nil (n : Nat) : Memory.lookup [] n = Memory.unlisted := rfl

theorem Memory.lookup_erase_self (m : Memory) (n : Nat) :
    (m.erase n).lookup n = Memory.unlisted := by
  induction m with
  | nil => rfl
  | cons cell rest ih =>
    obtain ⟨k, w⟩ := cell
    by_cases hk : k = n
    · simpa [Memory.erase, hk] using ih
    · simpa [Memory.erase, Memory.lookup, hk] using ih

theorem Memory.lookup_erase_ne (m : Memory) {n k : Nat} (h : k ≠ n) :
    (m.erase n).lookup k = m.lookup k := by
  induction m with
  | nil => rfl
  | cons cell rest ih =>
    obtain ⟨j, w⟩ := cell
    by_cases hj : j = n
    · have : j ≠ k := by omega
      simpa [Memory.erase, Memory.lookup, hj, Ne.symm h] using ih
    · by_cases hjk : j = k
      · simp [Memory.erase, Memory.lookup, hjk, h]
      · simpa [Memory.erase, Memory.lookup, hj, hjk] using ih

theorem Memory.lookup_insert_self (m : Memory) (n : Nat) (v : Byte) (h : ∀ cell ∈ m, cell.1 ≠ n) :
    (m.insert n v).lookup n = v := by
  induction m with
  | nil => simp [Memory.insert, Memory.lookup]
  | cons cell rest ih =>
    obtain ⟨k, w⟩ := cell
    have hk : k ≠ n := h (k, w) (by simp)
    by_cases hlt : n < k
    · simp [Memory.insert, Memory.lookup, hlt]
    · simpa [Memory.insert, Memory.lookup, hlt, hk] using
        ih fun cell hcell => h cell (by simp [hcell])

theorem Memory.lookup_insert_ne (m : Memory) {n k : Nat} (v : Byte) (h : k ≠ n) :
    (m.insert n v).lookup k = m.lookup k := by
  induction m with
  | nil => simp [Memory.insert, Memory.lookup, Ne.symm h]
  | cons cell rest ih =>
    obtain ⟨j, w⟩ := cell
    by_cases hlt : n < j
    · simp [Memory.insert, Memory.lookup, hlt, Ne.symm h]
    · rw [Memory.insert, if_neg hlt]
      by_cases hj : j = k
      · simp [Memory.lookup, hj]
      · simpa [Memory.lookup, hj] using ih

theorem Memory.erase_ne (m : Memory) (n : Nat) : ∀ cell ∈ m.erase n, cell.1 ≠ n := by
  intro cell hcell
  simpa using (List.mem_filter.mp hcell).2

/-- A read gives the byte last written to that cell (R31). -/
@[simp] theorem Memory.read_write_self (m : Memory) (a : Addr) (v : Byte) :
    (m.write a v).read a = v := by
  by_cases hv : v = Memory.unlisted
  · simp [Memory.write, Memory.read, hv, Memory.lookup_erase_self]
  · simp [Memory.write, Memory.read, hv,
      Memory.lookup_insert_self _ _ _ (Memory.erase_ne m a.toNat)]

/-- A write changes no other cell (R31). -/
theorem Memory.read_write_ne (m : Memory) {a x : Addr} (v : Byte) (h : x ≠ a) :
    (m.write a v).read x = m.read x := by
  have hn : x.toNat ≠ a.toNat := fun he => h (BitVec.eq_of_toNat_eq he)
  by_cases hv : v = Memory.unlisted
  · simp [Memory.write, Memory.read, hv, Memory.lookup_erase_ne m hn]
  · simp [Memory.write, Memory.read, hv, Memory.lookup_insert_ne _ v hn,
      Memory.lookup_erase_ne m hn]

/-- Everything a write does to later reads. -/
theorem Memory.read_write (m : Memory) (a x : Addr) (v : Byte) :
    (m.write a v).read x = if x = a then v else m.read x := by
  by_cases h : x = a
  · simp [h]
  · simp [h, Memory.read_write_ne m v h]

/-! ### The canonical form -/

theorem Memory.wf_nil : Memory.wf [] := by simp [Memory.wf]

theorem Memory.wf_erase {m : Memory} (h : m.wf) (n : Nat) : (m.erase n).wf :=
  ⟨h.1.filter _, fun cell hcell => h.2 cell (List.mem_filter.mp hcell).1⟩

theorem Memory.mem_insert {m : Memory} {n : Nat} {v : Byte} {cell : Host.Cell}
    (h : cell ∈ m.insert n v) : cell = (n, v) ∨ cell ∈ m := by
  induction m with
  | nil => simpa [Memory.insert] using h
  | cons head rest ih =>
    obtain ⟨k, w⟩ := head
    by_cases hlt : n < k
    · simpa [Memory.insert, hlt] using h
    · simp only [Memory.insert, hlt, if_false, List.mem_cons] at h ⊢
      rcases h with rfl | h
      · exact .inr (.inl rfl)
      · exact (ih h).imp_right .inr

theorem Memory.pairwise_insert {m : Memory} {n : Nat} {v : Byte}
    (h : m.Pairwise (fun x y => x.1 < y.1)) (hne : ∀ cell ∈ m, cell.1 ≠ n) :
    (m.insert n v).Pairwise (fun x y => x.1 < y.1) := by
  induction m with
  | nil => simp [Memory.insert]
  | cons head rest ih =>
    obtain ⟨k, w⟩ := head
    obtain ⟨hk, hrest⟩ := List.pairwise_cons.mp h
    have hkn : k ≠ n := hne (k, w) (by simp)
    by_cases hlt : n < k
    · simp only [Memory.insert, hlt, if_true]
      refine List.pairwise_cons.mpr ⟨fun y hy => ?_, h⟩
      rcases List.mem_cons.mp hy with rfl | hy
      · exact hlt
      · exact lt_trans hlt (hk y hy)
    · simp only [Memory.insert, hlt, if_false]
      refine List.pairwise_cons.mpr
        ⟨fun y hy => ?_, ih hrest fun cell hcell => hne cell (by simp [hcell])⟩
      rcases Memory.mem_insert hy with rfl | hy
      · show k < n
        omega
      · exact hk y hy

/-- A write keeps the canonical form. -/
theorem Memory.wf_write {m : Memory} (h : m.wf) (a : Addr) (v : Byte) : (m.write a v).wf := by
  have he := Memory.wf_erase h a.toNat
  by_cases hv : v = Memory.unlisted
  · simpa only [Memory.write, hv, if_true] using he
  · simp only [Memory.write, hv, if_false]
    refine ⟨Memory.pairwise_insert he.1 (Memory.erase_ne m a.toNat), fun cell hcell => ?_⟩
    rcases Memory.mem_insert hcell with rfl | hcell
    · exact ⟨a.isLt, hv⟩
    · exact he.2 cell hcell

/-- Placing bytes keeps the canonical form. -/
theorem Memory.wf_load {m : Memory} (h : m.wf) (a : Addr) (bytes : List Byte) :
    (m.load a bytes).wf := by
  induction bytes generalizing m a with
  | nil => exact h
  | cons v rest ih => exact ih (Memory.wf_write h a v) (a + 1#16)

theorem Memory.wf_cellsBelow {n : Nat} (hn : n ≤ Config.memorySize) (image : Addr → Byte) :
    (Memory.cellsBelow n image).wf := by
  unfold Memory.cellsBelow
  refine ⟨List.Pairwise.filter _ (List.pairwise_map.mpr List.pairwise_lt_range),
    fun cell hcell => ?_⟩
  obtain ⟨hmap, hne⟩ := List.mem_filter.mp hcell
  obtain ⟨k, hk, rfl⟩ := List.mem_map.mp hmap
  exact ⟨lt_of_lt_of_le (List.mem_range.mp hk) hn, by simpa using hne⟩

/-- The memory made from any `IMAGE` has the canonical form. -/
theorem Memory.wf_ofImage (image : Addr → Byte) : (Memory.ofImage image).wf :=
  Memory.wf_cellsBelow le_rfl image

/-- Memory after reset has the canonical form. -/
theorem Memory.wf_reset : State.reset.mem.wf := Memory.wf_nil

/-! ### Reading `IMAGE` -/

theorem Memory.lookup_append (m m' : Memory) (n : Nat) (h : ∀ cell ∈ m, cell.1 ≠ n) :
    Memory.lookup (m ++ m') n = Memory.lookup m' n := by
  induction m with
  | nil => rfl
  | cons cell rest ih =>
    obtain ⟨k, w⟩ := cell
    have hk : k ≠ n := h (k, w) (by simp)
    simpa [Memory.lookup, hk] using ih fun c hc => h c (by simp [hc])

theorem Memory.lookup_of_absent (m : Memory) (n : Nat) (h : ∀ cell ∈ m, cell.1 ≠ n) :
    Memory.lookup m n = Memory.unlisted := by
  simpa using Memory.lookup_append m [] n h

theorem Memory.lookup_append_absent (m m' : Memory) (n : Nat) (h : ∀ cell ∈ m', cell.1 ≠ n) :
    Memory.lookup (m ++ m') n = Memory.lookup m n := by
  induction m with
  | nil => exact Memory.lookup_of_absent m' n h
  | cons cell rest ih =>
    obtain ⟨k, w⟩ := cell
    by_cases hk : k = n
    · simp [Memory.lookup, hk]
    · simpa [Memory.lookup, hk] using ih

theorem Memory.key_cellsBelow {n : Nat} {image : Addr → Byte} {cell : Host.Cell}
    (h : cell ∈ Memory.cellsBelow n image) : cell.1 < n := by
  unfold Memory.cellsBelow at h
  obtain ⟨k, hk, rfl⟩ := List.mem_map.mp (List.mem_filter.mp h).1
  exact List.mem_range.mp hk

theorem Memory.cellsBelow_succ (n : Nat) (image : Addr → Byte) :
    Memory.cellsBelow (n + 1) image = Memory.cellsBelow n image ++
      if image (BitVec.ofNat 16 n) = Memory.unlisted then []
      else [(n, image (BitVec.ofNat 16 n))] := by
  by_cases h : image (BitVec.ofNat 16 n) = Memory.unlisted <;>
    simp [Memory.cellsBelow, List.range_succ, h]

theorem Memory.lookup_cellsBelow {n k : Nat} (hk : k < n) (image : Addr → Byte) :
    (Memory.cellsBelow n image).lookup k = image (BitVec.ofNat 16 k) := by
  induction n with
  | zero => omega
  | succ n ih =>
    rw [Memory.cellsBelow_succ]
    by_cases hkn : k = n
    · subst hkn
      rw [Memory.lookup_append _ _ _ fun cell hcell => (Memory.key_cellsBelow hcell).ne]
      by_cases h : image (BitVec.ofNat 16 k) = Memory.unlisted <;> simp [Memory.lookup, h]
    · rw [Memory.lookup_append_absent, ih (by omega)]
      intro cell hcell
      split at hcell
      · simp at hcell
      · obtain rfl := List.mem_singleton.mp hcell
        exact Ne.symm hkn

/-- Every cell of the memory made from `IMAGE` reads as `IMAGE` says (R22, R31). -/
@[simp] theorem Memory.read_ofImage (image : Addr → Byte) (a : Addr) :
    (Memory.ofImage image).read a = image a := by
  have ha : a.toNat < Config.memorySize := a.isLt
  rw [Memory.read, Memory.ofImage, Memory.lookup_cellsBelow ha, BitVec.ofNat_toNat,
    BitVec.setWidth_eq]

@[simp] theorem State.boot_mem (image : Addr → Byte) :
    (State.boot image).mem = Memory.ofImage image := rfl

@[simp] theorem State.readByte_boot (image : Addr → Byte) (a : Addr) :
    (State.boot image).readByte a = image a := by
  rw [State.readByte, State.boot_mem, Memory.read_ofImage]

end Sys2Proof.Machine
end

