-- ==== Sys2Proof/Laws/State.lean ====
section
/-! SUPPORT. One lemma for each field of State under each update, so that no later proof unfolds a record
update. -/

namespace Sys2Proof.Machine

variable (s : State) (r r' : Reg8) (p : RegPair) (v : Byte) (w : Word) (x : Addr) (i : Instr)
  (rep : Report) (src : Src) (n : Nat)

/-! ### Writing a register -/

@[simp] theorem State.setReg_A : s.setReg .A v = { s with a := v } := rfl
@[simp] theorem State.setReg_B : s.setReg .B v = { s with b := v } := rfl
@[simp] theorem State.setReg_C : s.setReg .C v = { s with c := v } := rfl
@[simp] theorem State.setReg_D : s.setReg .D v = { s with d := v } := rfl
@[simp] theorem State.setReg_E : s.setReg .E v = { s with e := v } := rfl
@[simp] theorem State.setReg_H : s.setReg .H v = { s with h := v } := rfl
@[simp] theorem State.setReg_L : s.setReg .L v = { s with l := v } := rfl
@[simp] theorem State.getReg_A : s.getReg .A = s.a := rfl
@[simp] theorem State.getReg_B : s.getReg .B = s.b := rfl
@[simp] theorem State.getReg_C : s.getReg .C = s.c := rfl
@[simp] theorem State.getReg_D : s.getReg .D = s.d := rfl
@[simp] theorem State.getReg_E : s.getReg .E = s.e := rfl
@[simp] theorem State.getReg_H : s.getReg .H = s.h := rfl
@[simp] theorem State.getReg_L : s.getReg .L = s.l := rfl
@[simp] theorem State.setReg_f : (s.setReg r v).f = s.f := by cases r <;> rfl
@[simp] theorem State.setReg_pc : (s.setReg r v).pc = s.pc := by cases r <;> rfl
@[simp] theorem State.setReg_sp : (s.setReg r v).sp = s.sp := by cases r <;> rfl
@[simp] theorem State.setReg_halted : (s.setReg r v).halted = s.halted := by cases r <;> rfl
@[simp] theorem State.setReg_count : (s.setReg r v).count = s.count := by cases r <;> rfl
@[simp] theorem State.setReg_mem : (s.setReg r v).mem = s.mem := by cases r <;> rfl
@[simp] theorem State.setReg_trace : (s.setReg r v).trace = s.trace := by cases r <;> rfl

/-- A register reads as what was last written to it. -/
@[simp] theorem State.getReg_setReg_self : (s.setReg r v).getReg r = v := by cases r <;> rfl

/-- Writing one register leaves every other one alone (R11: no aliases). -/
theorem State.getReg_setReg_ne (h : r' ≠ r) : (s.setReg r v).getReg r' = s.getReg r' := by
  cases r <;> cases r' <;> first | rfl | exact absurd rfl h

@[simp] theorem State.readByte_setReg : (s.setReg r v).readByte x = s.readByte x := by
  simp only [State.readByte, State.setReg_mem]

/-! ### Writing a pair -/

@[simp] theorem State.setPair_f : (s.setPair p w).f = s.f := by simp only [State.setPair, State.setReg_f]
@[simp] theorem State.setPair_pc : (s.setPair p w).pc = s.pc := by simp only [State.setPair, State.setReg_pc]
@[simp] theorem State.setPair_sp : (s.setPair p w).sp = s.sp := by simp only [State.setPair, State.setReg_sp]
@[simp] theorem State.setPair_halted : (s.setPair p w).halted = s.halted := by simp only [State.setPair, State.setReg_halted]
@[simp] theorem State.setPair_count : (s.setPair p w).count = s.count := by simp only [State.setPair, State.setReg_count]
@[simp] theorem State.setPair_mem : (s.setPair p w).mem = s.mem := by simp only [State.setPair, State.setReg_mem]
@[simp] theorem State.setPair_trace : (s.setPair p w).trace = s.trace := by simp only [State.setPair, State.setReg_trace]

/-- Writing a pair leaves every register outside it alone (R73). -/
theorem State.getReg_setPair_ne (hh : r ≠ RegPair.high p) (hl : r ≠ RegPair.low p) :
    (s.setPair p w).getReg r = s.getReg r := by
  rw [State.setPair, State.getReg_setReg_ne _ _ _ _ hl, State.getReg_setReg_ne _ _ _ _ hh]

/-! ### Writing SP, a memory byte, the flags -/

@[simp] theorem State.setSp_a : (s.setSp w).a = s.a := rfl
@[simp] theorem State.setSp_b : (s.setSp w).b = s.b := rfl
@[simp] theorem State.setSp_c : (s.setSp w).c = s.c := rfl
@[simp] theorem State.setSp_d : (s.setSp w).d = s.d := rfl
@[simp] theorem State.setSp_e : (s.setSp w).e = s.e := rfl
@[simp] theorem State.setSp_h : (s.setSp w).h = s.h := rfl
@[simp] theorem State.setSp_l : (s.setSp w).l = s.l := rfl
@[simp] theorem State.setSp_f : (s.setSp w).f = s.f := rfl
@[simp] theorem State.setSp_pc : (s.setSp w).pc = s.pc := rfl
@[simp] theorem State.setSp_halted : (s.setSp w).halted = s.halted := rfl
@[simp] theorem State.setSp_count : (s.setSp w).count = s.count := rfl
@[simp] theorem State.setSp_mem : (s.setSp w).mem = s.mem := rfl
@[simp] theorem State.setSp_trace : (s.setSp w).trace = s.trace := rfl
@[simp] theorem State.setSp_sp : (s.setSp w).sp = w := rfl

@[simp] theorem State.writeByte_a : (s.writeByte x v).a = s.a := rfl
@[simp] theorem State.writeByte_b : (s.writeByte x v).b = s.b := rfl
@[simp] theorem State.writeByte_c : (s.writeByte x v).c = s.c := rfl
@[simp] theorem State.writeByte_d : (s.writeByte x v).d = s.d := rfl
@[simp] theorem State.writeByte_e : (s.writeByte x v).e = s.e := rfl
@[simp] theorem State.writeByte_h : (s.writeByte x v).h = s.h := rfl
@[simp] theorem State.writeByte_l : (s.writeByte x v).l = s.l := rfl
@[simp] theorem State.writeByte_f : (s.writeByte x v).f = s.f := rfl
@[simp] theorem State.writeByte_pc : (s.writeByte x v).pc = s.pc := rfl
@[simp] theorem State.writeByte_sp : (s.writeByte x v).sp = s.sp := rfl
@[simp] theorem State.writeByte_halted : (s.writeByte x v).halted = s.halted := rfl
@[simp] theorem State.writeByte_count : (s.writeByte x v).count = s.count := rfl
@[simp] theorem State.writeByte_trace : (s.writeByte x v).trace = s.trace := rfl
@[simp] theorem State.writeByte_mem : (s.writeByte x v).mem = s.mem.write x v := rfl

@[simp] theorem State.updateFlags_a : (s.updateFlags v).a = s.a := rfl
@[simp] theorem State.updateFlags_b : (s.updateFlags v).b = s.b := rfl
@[simp] theorem State.updateFlags_c : (s.updateFlags v).c = s.c := rfl
@[simp] theorem State.updateFlags_d : (s.updateFlags v).d = s.d := rfl
@[simp] theorem State.updateFlags_e : (s.updateFlags v).e = s.e := rfl
@[simp] theorem State.updateFlags_h : (s.updateFlags v).h = s.h := rfl
@[simp] theorem State.updateFlags_l : (s.updateFlags v).l = s.l := rfl
@[simp] theorem State.updateFlags_pc : (s.updateFlags v).pc = s.pc := rfl
@[simp] theorem State.updateFlags_sp : (s.updateFlags v).sp = s.sp := rfl
@[simp] theorem State.updateFlags_halted : (s.updateFlags v).halted = s.halted := rfl
@[simp] theorem State.updateFlags_count : (s.updateFlags v).count = s.count := rfl
@[simp] theorem State.updateFlags_mem : (s.updateFlags v).mem = s.mem := rfl
@[simp] theorem State.updateFlags_trace : (s.updateFlags v).trace = s.trace := rfl
@[simp] theorem State.updateFlags_f : (s.updateFlags v).f = Machine.updateFlags v s.f := rfl

/-! ### Fetching a byte, counting, emitting, reporting -/

@[simp] theorem State.fetch8_fst : s.fetch8.1 = s.readByte s.pc := rfl
@[simp] theorem State.fetch8_snd_a : (s.fetch8.2).a = s.a := rfl
@[simp] theorem State.fetch8_snd_b : (s.fetch8.2).b = s.b := rfl
@[simp] theorem State.fetch8_snd_c : (s.fetch8.2).c = s.c := rfl
@[simp] theorem State.fetch8_snd_d : (s.fetch8.2).d = s.d := rfl
@[simp] theorem State.fetch8_snd_e : (s.fetch8.2).e = s.e := rfl
@[simp] theorem State.fetch8_snd_h : (s.fetch8.2).h = s.h := rfl
@[simp] theorem State.fetch8_snd_l : (s.fetch8.2).l = s.l := rfl
@[simp] theorem State.fetch8_snd_f : (s.fetch8.2).f = s.f := rfl
@[simp] theorem State.fetch8_snd_sp : (s.fetch8.2).sp = s.sp := rfl
@[simp] theorem State.fetch8_snd_halted : (s.fetch8.2).halted = s.halted := rfl
@[simp] theorem State.fetch8_snd_count : (s.fetch8.2).count = s.count := rfl
@[simp] theorem State.fetch8_snd_mem : (s.fetch8.2).mem = s.mem := rfl
@[simp] theorem State.fetch8_snd_trace : (s.fetch8.2).trace = s.trace := rfl
@[simp] theorem State.fetch8_snd_pc : (s.fetch8.2).pc = s.pc + 1#16 := rfl

@[simp] theorem State.incrementCount_a : (s.incrementCount).a = s.a := rfl
@[simp] theorem State.incrementCount_b : (s.incrementCount).b = s.b := rfl
@[simp] theorem State.incrementCount_c : (s.incrementCount).c = s.c := rfl
@[simp] theorem State.incrementCount_d : (s.incrementCount).d = s.d := rfl
@[simp] theorem State.incrementCount_e : (s.incrementCount).e = s.e := rfl
@[simp] theorem State.incrementCount_h : (s.incrementCount).h = s.h := rfl
@[simp] theorem State.incrementCount_l : (s.incrementCount).l = s.l := rfl
@[simp] theorem State.incrementCount_f : (s.incrementCount).f = s.f := rfl
@[simp] theorem State.incrementCount_pc : (s.incrementCount).pc = s.pc := rfl
@[simp] theorem State.incrementCount_sp : (s.incrementCount).sp = s.sp := rfl
@[simp] theorem State.incrementCount_halted : (s.incrementCount).halted = s.halted := rfl
@[simp] theorem State.incrementCount_mem : (s.incrementCount).mem = s.mem := rfl
@[simp] theorem State.incrementCount_trace : (s.incrementCount).trace = s.trace := rfl
@[simp] theorem State.incrementCount_count : (s.incrementCount).count = s.count + 1 := rfl

@[simp] theorem State.emit_a : (s.emit rep).a = s.a := rfl
@[simp] theorem State.emit_b : (s.emit rep).b = s.b := rfl
@[simp] theorem State.emit_c : (s.emit rep).c = s.c := rfl
@[simp] theorem State.emit_d : (s.emit rep).d = s.d := rfl
@[simp] theorem State.emit_e : (s.emit rep).e = s.e := rfl
@[simp] theorem State.emit_h : (s.emit rep).h = s.h := rfl
@[simp] theorem State.emit_l : (s.emit rep).l = s.l := rfl
@[simp] theorem State.emit_f : (s.emit rep).f = s.f := rfl
@[simp] theorem State.emit_pc : (s.emit rep).pc = s.pc := rfl
@[simp] theorem State.emit_sp : (s.emit rep).sp = s.sp := rfl
@[simp] theorem State.emit_halted : (s.emit rep).halted = s.halted := rfl
@[simp] theorem State.emit_count : (s.emit rep).count = s.count := rfl
@[simp] theorem State.emit_mem : (s.emit rep).mem = s.mem := rfl
@[simp] theorem State.emit_trace : (s.emit rep).trace = s.snapshot Config.traceWindow rep :: s.trace := rfl

@[simp] theorem State.report_a : (s.report i).a = s.a := rfl
@[simp] theorem State.report_b : (s.report i).b = s.b := rfl
@[simp] theorem State.report_c : (s.report i).c = s.c := rfl
@[simp] theorem State.report_d : (s.report i).d = s.d := rfl
@[simp] theorem State.report_e : (s.report i).e = s.e := rfl
@[simp] theorem State.report_h : (s.report i).h = s.h := rfl
@[simp] theorem State.report_l : (s.report i).l = s.l := rfl
@[simp] theorem State.report_f : (s.report i).f = s.f := rfl
@[simp] theorem State.report_pc : (s.report i).pc = s.pc := rfl
@[simp] theorem State.report_sp : (s.report i).sp = s.sp := rfl
@[simp] theorem State.report_halted : (s.report i).halted = s.halted := rfl
@[simp] theorem State.report_mem : (s.report i).mem = s.mem := rfl
@[simp] theorem State.report_count : (s.report i).count = s.count + 1 := rfl
@[simp] theorem State.report_trace :
    (s.report i).trace =
      s.incrementCount.snapshot Config.traceWindow (reportOf i) :: s.trace := rfl
@[simp] theorem State.readByte_report : (s.report i).readByte x = s.readByte x := rfl

/-! ### Moving and adding into A, moving past bytes -/

@[simp] theorem State.moveToA_b : (s.moveToA src).b = s.b := rfl
@[simp] theorem State.moveToA_c : (s.moveToA src).c = s.c := rfl
@[simp] theorem State.moveToA_d : (s.moveToA src).d = s.d := rfl
@[simp] theorem State.moveToA_e : (s.moveToA src).e = s.e := rfl
@[simp] theorem State.moveToA_h : (s.moveToA src).h = s.h := rfl
@[simp] theorem State.moveToA_l : (s.moveToA src).l = s.l := rfl
@[simp] theorem State.moveToA_f : (s.moveToA src).f = s.f := rfl
@[simp] theorem State.moveToA_pc : (s.moveToA src).pc = s.pc := rfl
@[simp] theorem State.moveToA_sp : (s.moveToA src).sp = s.sp := rfl
@[simp] theorem State.moveToA_halted : (s.moveToA src).halted = s.halted := rfl
@[simp] theorem State.moveToA_count : (s.moveToA src).count = s.count := rfl
@[simp] theorem State.moveToA_mem : (s.moveToA src).mem = s.mem := rfl
@[simp] theorem State.moveToA_trace : (s.moveToA src).trace = s.trace := rfl
@[simp] theorem State.moveToA_a : (s.moveToA src).a = s.readSrc src := rfl

@[simp] theorem State.addToA_b : (s.addToA src).b = s.b := rfl
@[simp] theorem State.addToA_c : (s.addToA src).c = s.c := rfl
@[simp] theorem State.addToA_d : (s.addToA src).d = s.d := rfl
@[simp] theorem State.addToA_e : (s.addToA src).e = s.e := rfl
@[simp] theorem State.addToA_h : (s.addToA src).h = s.h := rfl
@[simp] theorem State.addToA_l : (s.addToA src).l = s.l := rfl
@[simp] theorem State.addToA_pc : (s.addToA src).pc = s.pc := rfl
@[simp] theorem State.addToA_sp : (s.addToA src).sp = s.sp := rfl
@[simp] theorem State.addToA_halted : (s.addToA src).halted = s.halted := rfl
@[simp] theorem State.addToA_count : (s.addToA src).count = s.count := rfl
@[simp] theorem State.addToA_mem : (s.addToA src).mem = s.mem := rfl
@[simp] theorem State.addToA_trace : (s.addToA src).trace = s.trace := rfl
@[simp] theorem State.addToA_a : (s.addToA src).a = s.a + s.readSrc src := rfl
@[simp] theorem State.addToA_f :
    (s.addToA src).f = Machine.updateFlags (s.a + s.readSrc src) s.f := rfl

@[simp] theorem State.pastBytes_a : (s.pastBytes n).a = s.a := rfl
@[simp] theorem State.pastBytes_b : (s.pastBytes n).b = s.b := rfl
@[simp] theorem State.pastBytes_c : (s.pastBytes n).c = s.c := rfl
@[simp] theorem State.pastBytes_d : (s.pastBytes n).d = s.d := rfl
@[simp] theorem State.pastBytes_e : (s.pastBytes n).e = s.e := rfl
@[simp] theorem State.pastBytes_h : (s.pastBytes n).h = s.h := rfl
@[simp] theorem State.pastBytes_l : (s.pastBytes n).l = s.l := rfl
@[simp] theorem State.pastBytes_f : (s.pastBytes n).f = s.f := rfl
@[simp] theorem State.pastBytes_sp : (s.pastBytes n).sp = s.sp := rfl
@[simp] theorem State.pastBytes_halted : (s.pastBytes n).halted = s.halted := rfl
@[simp] theorem State.pastBytes_count : (s.pastBytes n).count = s.count := rfl
@[simp] theorem State.pastBytes_mem : (s.pastBytes n).mem = s.mem := rfl
@[simp] theorem State.pastBytes_trace : (s.pastBytes n).trace = s.trace := rfl
@[simp] theorem State.pastBytes_pc : (s.pastBytes n).pc = s.pc + BitVec.ofNat 16 n := rfl
@[simp] theorem State.readByte_pastBytes : (s.pastBytes n).readByte x = s.readByte x := rfl

end Sys2Proof.Machine
end

