-- ==== Sys2Proof/Laws/Exec.lean ====
section
/-! SUPPORT. What fetching, executing and stepping can do, said once: later proofs cite these and unfold
neither `exec` nor `step`. -/

namespace Sys2Proof.Machine

/-! ### Fetching -/

theorem State.fetchInstr_fst_eq (s : State) :
    s.fetchInstr.1 = match formatOfOpcode (s.readByte s.pc) with
      | .F0 => instrOfBytes (s.readByte s.pc) 0x00#8 0x00#8
      | .F1 => instrOfBytes (s.readByte s.pc) (s.readByte (s.pc + 1#16)) 0x00#8
      | .F2 => instrOfBytes (s.readByte s.pc) (s.readByte (s.pc + 1#16))
          (s.readByte (s.pc + 1#16 + 1#16)) := by
  simp only [State.fetchInstr, State.fetch8_fst]
  cases formatOfOpcode (s.readByte s.pc) <;> rfl

/-- Fetching moves PC past the instruction and changes nothing else (R15, R16). -/
theorem State.fetchInstr_snd (s : State) :
    s.fetchInstr.2 = s.pastBytes s.fetchInstr.1.length := by
  have hlen : s.fetchInstr.1.length = 1 + (formatOfOpcode (s.readByte s.pc)).operandCount := by
    rw [s.fetchInstr_fst_eq]
    cases h : formatOfOpcode (s.readByte s.pc) <;> simp [length_instrOfBytes, h]
  rw [hlen]
  simp only [State.fetchInstr, State.fetch8_fst]
  cases formatOfOpcode (s.readByte s.pc) <;>
    simp [State.pastBytes, State.fetch8, Format.operandCount, BitVec.add_assoc]

/-- The opcode byte of the fetched instruction is the byte at PC. -/
theorem State.fetchInstr_opcode (s : State) : s.fetchInstr.1.opcode = s.readByte s.pc := by
  rw [s.fetchInstr_fst_eq]
  cases formatOfOpcode (s.readByte s.pc) <;> exact opcode_instrOfBytes _ _ _

/-- What decodes at PC is what a step fetches: the three bytes from PC hold every operand byte that the
fetch reads, and the fetch reads no other (R34, R90). -/
theorem State.atPc_iff (s : State) (i : Instr) : s.AtPc i ↔ s.fetchInstr.1 = i := by
  have hadd : s.pc + 1#16 + 1#16 = s.pc + 2#16 := by rw [BitVec.add_assoc]; rfl
  rw [s.fetchInstr_fst_eq, hadd]
  simp only [State.AtPc, State.bytesAtPc, decode]
  cases formatOfOpcode (s.readByte s.pc) <;> simp

/-- Some instruction stands at PC, whatever the bytes (R55: decode is total). -/
theorem State.exists_atPc (s : State) : ∃ i, s.AtPc i := ⟨_, (s.atPc_iff _).mpr rfl⟩

/-! ### Executing -/

/-- The source operand of a move or an add: a register, or `M` for `none`. -/
def srcOf : Option Reg8 → Src
  | some r => .reg r
  | none => .mem

/-- `LXI` with a register pair. -/
def lxiPairOf (p : RegPair) (d16 : Word) : Instr :=
  match p with
  | .BC => .lxiB d16
  | .DE => .lxiD d16
  | .HL => .lxiH d16

/-- `ExecResult s i t`: `t` is what instruction `i` makes of `s`. One constructor for each kind of
effect, so that a proof about all instructions has nine cases and not 256. -/
inductive ExecResult (s : State) : Instr → State → Prop where
  | nothing (i : Instr) (h : i = .nop ∨ i.isUnimplemented = true) : ExecResult s i s
  | move (src : Option Reg8) : ExecResult s (movOf src) (s.moveToA (srcOf src))
  | loadByte (r : Reg8) (d8 : Byte) : ExecResult s (mviOf r d8) (s.setReg r d8)
  | loadPair (p : RegPair) (d16 : Word) : ExecResult s (lxiPairOf p d16) (s.setPair p d16)
  | loadSp (d16 : Word) : ExecResult s (.lxiSP d16) (s.setSp d16)
  | store (a16 : Addr) : ExecResult s (.sta a16) (s.writeByte a16 s.a)
  | add (src : Option Reg8) : ExecResult s (addOf src) (s.addToA (srcOf src))
  | addImmediate (d8 : Byte) : ExecResult s (.adi d8) (s.addToA (.imm d8))
  | halt : ExecResult s .hlt { s with halted := true }

/-- Every instruction completes, with the effect of one of the nine kinds (R90, R100). -/
theorem exec_result (i : Instr) (s : State) : ∃ t, exec i s = .next t ∧ ExecResult s i t := by
  cases i <;> first
    | exact ⟨_, rfl, .nothing _ (.inr rfl)⟩
    | exact ⟨_, rfl, .nothing _ (.inl rfl)⟩
    | exact ⟨_, rfl, .move none⟩
    | exact ⟨_, rfl, .move (some .A)⟩
    | exact ⟨_, rfl, .move (some .B)⟩
    | exact ⟨_, rfl, .move (some .C)⟩
    | exact ⟨_, rfl, .move (some .D)⟩
    | exact ⟨_, rfl, .move (some .E)⟩
    | exact ⟨_, rfl, .move (some .H)⟩
    | exact ⟨_, rfl, .move (some .L)⟩
    | exact ⟨_, rfl, .add none⟩
    | exact ⟨_, rfl, .add (some .A)⟩
    | exact ⟨_, rfl, .add (some .B)⟩
    | exact ⟨_, rfl, .add (some .C)⟩
    | exact ⟨_, rfl, .add (some .D)⟩
    | exact ⟨_, rfl, .add (some .E)⟩
    | exact ⟨_, rfl, .add (some .H)⟩
    | exact ⟨_, rfl, .add (some .L)⟩
    | exact ⟨_, rfl, .loadByte .A _⟩
    | exact ⟨_, rfl, .loadByte .B _⟩
    | exact ⟨_, rfl, .loadByte .C _⟩
    | exact ⟨_, rfl, .loadByte .D _⟩
    | exact ⟨_, rfl, .loadByte .E _⟩
    | exact ⟨_, rfl, .loadByte .H _⟩
    | exact ⟨_, rfl, .loadByte .L _⟩
    | exact ⟨_, rfl, .loadPair .BC _⟩
    | exact ⟨_, rfl, .loadPair .DE _⟩
    | exact ⟨_, rfl, .loadPair .HL _⟩
    | exact ⟨_, rfl, .loadSp _⟩
    | exact ⟨_, rfl, .store _⟩
    | exact ⟨_, rfl, .addImmediate _⟩
    | exact ⟨_, rfl, .halt⟩

/-- What is known of a next state: it is the result of one of the nine kinds. -/
theorem ExecResult.of_exec {i : Instr} {s t : State} (h : exec i s = .next t) :
    ExecResult s i t := by
  obtain ⟨u, hu, hr⟩ := exec_result i s
  rw [hu] at h
  cases h
  exact hr

/-- Every instruction completes in every state. -/
theorem exec_next (i : Instr) (s : State) : ∃ t, exec i s = .next t :=
  let ⟨t, ht, _⟩ := exec_result i s
  ⟨t, ht⟩

/-- No instruction's own effect moves PC, counts or reports: the fetch and the report do (R90). -/
theorem exec_frame {i : Instr} {s t : State} (h : exec i s = .next t) :
    t.pc = s.pc ∧ t.count = s.count ∧ t.trace = s.trace := by
  cases ExecResult.of_exec h <;> simp

/-! ### Stepping -/

/-- A halted machine takes no step (R19). -/
theorem step_halted {s : State} (h : s.halted = true) : step s = .next s := by
  simp [step, h, haltedStep]

/-- A running machine executes the fetched instruction past its bytes and reports it (R90). -/
theorem step_running {s : State} (h : s.halted = false) :
    ∃ t, exec s.fetchInstr.1 (s.pastBytes s.fetchInstr.1.length) = .next t ∧
      step s = .next (t.report s.fetchInstr.1) := by
  obtain ⟨t, ht⟩ := exec_next s.fetchInstr.1 (s.pastBytes s.fetchInstr.1.length)
  refine ⟨t, ht, ?_⟩
  have hsnd := s.fetchInstr_snd
  simp only [step, h]
  rw [show s.fetchInstr = (s.fetchInstr.1, s.pastBytes s.fetchInstr.1.length) by rw [← hsnd]]
  simp [ht]

/-! ### Runs -/

/-- A run that answers a next state went through a next state of its first step. -/
theorem runSteps_succ (k : Nat) (s : State) :
    runSteps (k + 1) s = match step s with
      | .next t => runSteps k t
      | .fault r => .fault r
      | .refused r => .refused r := rfl

/-- `runSteps` is the host's run of this machine. -/
theorem runSteps_eq_core (k : Nat) (s : State) : runSteps k s = core.run k s := by
  induction k generalizing s with
  | zero => rfl
  | succ k ih =>
    rw [runSteps_succ]
    cases h : step s with
    | next t =>
      have hc : core.step s = .next t := h
      simp only [Host.Core.run, hc]
      exact ih t
    | fault r =>
      have hc : core.step s = .fault r := h
      simp only [Host.Core.run, hc]
      rfl
    | refused r =>
      have hc : core.step s = .refused r := h
      simp only [Host.Core.run, hc]
      rfl

/-- An invariant that every step keeps holds along every run. -/
theorem runSteps_keeps {P : State → Prop} (hstep : ∀ s t, P s → step s = .next t → P t) {k : Nat}
    {s t : State} (hs : P s) (h : runSteps k s = .next t) : P t := by
  induction k generalizing s with
  | zero =>
    cases h
    exact hs
  | succ k ih =>
    rw [runSteps_succ] at h
    cases hst : step s with
    | next u =>
      rw [hst] at h
      exact ih (hstep s u hs hst) h
    | fault r => rw [hst] at h; cases h
    | refused r => rw [hst] at h; cases h

end Sys2Proof.Machine
end

