-- ==== Sys2Proof/Tests/Slice0.lean ====
section
/-! SUPPORT. Tests. The expected results are the spec's: the encodings of spec/opcode_table.json and
30_encoding.md R54, and the vectors of spec/95_test_vectors.md, whose id each test names. Then one
witness for each statement that has hypotheses. -/

set_option Elab.async false

namespace Sys2Proof.Machine

/-! ### Well-formedness and the decoder's rejections -/

/-- No byte at all, an operand missing, an operand too many: each is refused. -/
theorem test_wellFormedBytes_refuses :
    wellFormedBytes [] = false ∧ wellFormedBytes [0x3E#8] = false ∧
    wellFormedBytes [0x21#8, 0x34#8] = false ∧ wellFormedBytes [0x00#8, 0x00#8] = false ∧
    wellFormedBytes [0x3E#8, 0x05#8, 0x00#8] = false := by decide

theorem test_wellFormedBytes_accepts :
    wellFormedBytes [0x00#8] = true ∧ wellFormedBytes [0x3E#8, 0x05#8] = true ∧
    wellFormedBytes [0x21#8, 0x34#8, 0x12#8] = true ∧ wellFormedBytes [0xFF#8] = true := by decide

/-- Every instruction is well-formed: its operands are bit vectors, so no ill-formed one exists (R58). -/
theorem test_wf_of_every_instr : ∀ i : Instr, i.wf = true := Laws.instr_wf

theorem test_decode_rejects_by_name :
    decode [] = .error .noOpcode ∧
    decode [0x3E#8] = .error (.missingOperand 0x3E#8) ∧
    decode [0x21#8] = .error (.missingOperand 0x21#8) ∧
    decode [0x21#8, 0x34#8] = .error (.missingOperand 0x21#8) := ⟨rfl, rfl, rfl, rfl⟩

/-! ### Decoding: the word of every row of the opcode table, its bits as the table writes them -/

/-- What decodes from an opcode byte with the bytes 0x34, 0x12 after it. -/
def decodedWith3412 (op : Byte) : Option Instr :=
  match decode [op, 0x34#8, 0x12#8] with
  | .ok (i, _) => some i
  | .error _ => none

theorem test_decode_row_0 :
    [0b00000000#8, 0b00000001#8, 0b00000010#8, 0b00000011#8,
      0b00000100#8, 0b00000101#8, 0b00000110#8, 0b00000111#8,
      0b00001000#8, 0b00001001#8, 0b00001010#8, 0b00001011#8,
      0b00001100#8, 0b00001101#8, 0b00001110#8, 0b00001111#8].map decodedWith3412 =
    [.nop, .lxiB 0x1234#16, .unimplemented0x02, .unimplemented0x03,
      .unimplemented0x04, .unimplemented0x05, .mviB 0x34#8, .unimplemented0x07,
      .unimplemented0x08, .unimplemented0x09, .unimplemented0x0A, .unimplemented0x0B,
      .unimplemented0x0C, .unimplemented0x0D, .mviC 0x34#8, .unimplemented0x0F].map some := by
  decide +kernel

theorem test_decode_row_1 :
    [0b00010000#8, 0b00010001#8, 0b00010010#8, 0b00010011#8,
      0b00010100#8, 0b00010101#8, 0b00010110#8, 0b00010111#8,
      0b00011000#8, 0b00011001#8, 0b00011010#8, 0b00011011#8,
      0b00011100#8, 0b00011101#8, 0b00011110#8, 0b00011111#8].map decodedWith3412 =
    [.unimplemented0x10, .lxiD 0x1234#16, .unimplemented0x12, .unimplemented0x13,
      .unimplemented0x14, .unimplemented0x15, .mviD 0x34#8, .unimplemented0x17,
      .unimplemented0x18, .unimplemented0x19, .unimplemented0x1A, .unimplemented0x1B,
      .unimplemented0x1C, .unimplemented0x1D, .mviE 0x34#8, .unimplemented0x1F].map some := by
  decide +kernel

theorem test_decode_row_2 :
    [0b00100000#8, 0b00100001#8, 0b00100010#8, 0b00100011#8,
      0b00100100#8, 0b00100101#8, 0b00100110#8, 0b00100111#8,
      0b00101000#8, 0b00101001#8, 0b00101010#8, 0b00101011#8,
      0b00101100#8, 0b00101101#8, 0b00101110#8, 0b00101111#8].map decodedWith3412 =
    [.unimplemented0x20, .lxiH 0x1234#16, .unimplemented0x22, .unimplemented0x23,
      .unimplemented0x24, .unimplemented0x25, .mviH 0x34#8, .unimplemented0x27,
      .unimplemented0x28, .unimplemented0x29, .unimplemented0x2A, .unimplemented0x2B,
      .unimplemented0x2C, .unimplemented0x2D, .mviL 0x34#8, .unimplemented0x2F].map some := by
  decide +kernel

theorem test_decode_row_3 :
    [0b00110000#8, 0b00110001#8, 0b00110010#8, 0b00110011#8,
      0b00110100#8, 0b00110101#8, 0b00110110#8, 0b00110111#8,
      0b00111000#8, 0b00111001#8, 0b00111010#8, 0b00111011#8,
      0b00111100#8, 0b00111101#8, 0b00111110#8, 0b00111111#8].map decodedWith3412 =
    [.unimplemented0x30, .lxiSP 0x1234#16, .sta 0x1234#16, .unimplemented0x33,
      .unimplemented0x34, .unimplemented0x35, .unimplemented0x36, .unimplemented0x37,
      .unimplemented0x38, .unimplemented0x39, .unimplemented0x3A, .unimplemented0x3B,
      .unimplemented0x3C, .unimplemented0x3D, .mviA 0x34#8, .unimplemented0x3F].map some := by
  decide +kernel

theorem test_decode_row_4 :
    [0b01000000#8, 0b01000001#8, 0b01000010#8, 0b01000011#8,
      0b01000100#8, 0b01000101#8, 0b01000110#8, 0b01000111#8,
      0b01001000#8, 0b01001001#8, 0b01001010#8, 0b01001011#8,
      0b01001100#8, 0b01001101#8, 0b01001110#8, 0b01001111#8].map decodedWith3412 =
    [.unimplemented0x40, .unimplemented0x41, .unimplemented0x42, .unimplemented0x43,
      .unimplemented0x44, .unimplemented0x45, .unimplemented0x46, .unimplemented0x47,
      .unimplemented0x48, .unimplemented0x49, .unimplemented0x4A, .unimplemented0x4B,
      .unimplemented0x4C, .unimplemented0x4D, .unimplemented0x4E, .unimplemented0x4F].map some := by
  decide +kernel

theorem test_decode_row_5 :
    [0b01010000#8, 0b01010001#8, 0b01010010#8, 0b01010011#8,
      0b01010100#8, 0b01010101#8, 0b01010110#8, 0b01010111#8,
      0b01011000#8, 0b01011001#8, 0b01011010#8, 0b01011011#8,
      0b01011100#8, 0b01011101#8, 0b01011110#8, 0b01011111#8].map decodedWith3412 =
    [.unimplemented0x50, .unimplemented0x51, .unimplemented0x52, .unimplemented0x53,
      .unimplemented0x54, .unimplemented0x55, .unimplemented0x56, .unimplemented0x57,
      .unimplemented0x58, .unimplemented0x59, .unimplemented0x5A, .unimplemented0x5B,
      .unimplemented0x5C, .unimplemented0x5D, .unimplemented0x5E, .unimplemented0x5F].map some := by
  decide +kernel

theorem test_decode_row_6 :
    [0b01100000#8, 0b01100001#8, 0b01100010#8, 0b01100011#8,
      0b01100100#8, 0b01100101#8, 0b01100110#8, 0b01100111#8,
      0b01101000#8, 0b01101001#8, 0b01101010#8, 0b01101011#8,
      0b01101100#8, 0b01101101#8, 0b01101110#8, 0b01101111#8].map decodedWith3412 =
    [.unimplemented0x60, .unimplemented0x61, .unimplemented0x62, .unimplemented0x63,
      .unimplemented0x64, .unimplemented0x65, .unimplemented0x66, .unimplemented0x67,
      .unimplemented0x68, .unimplemented0x69, .unimplemented0x6A, .unimplemented0x6B,
      .unimplemented0x6C, .unimplemented0x6D, .unimplemented0x6E, .unimplemented0x6F].map some := by
  decide +kernel

theorem test_decode_row_7 :
    [0b01110000#8, 0b01110001#8, 0b01110010#8, 0b01110011#8,
      0b01110100#8, 0b01110101#8, 0b01110110#8, 0b01110111#8,
      0b01111000#8, 0b01111001#8, 0b01111010#8, 0b01111011#8,
      0b01111100#8, 0b01111101#8, 0b01111110#8, 0b01111111#8].map decodedWith3412 =
    [.unimplemented0x70, .unimplemented0x71, .unimplemented0x72, .unimplemented0x73,
      .unimplemented0x74, .unimplemented0x75, .hlt, .unimplemented0x77,
      .movAB, .movAC, .movAD, .movAE,
      .movAH, .movAL, .movAM, .movAA].map some := by
  decide +kernel

theorem test_decode_row_8 :
    [0b10000000#8, 0b10000001#8, 0b10000010#8, 0b10000011#8,
      0b10000100#8, 0b10000101#8, 0b10000110#8, 0b10000111#8,
      0b10001000#8, 0b10001001#8, 0b10001010#8, 0b10001011#8,
      0b10001100#8, 0b10001101#8, 0b10001110#8, 0b10001111#8].map decodedWith3412 =
    [.addB, .addC, .addD, .addE,
      .addH, .addL, .addM, .addA,
      .unimplemented0x88, .unimplemented0x89, .unimplemented0x8A, .unimplemented0x8B,
      .unimplemented0x8C, .unimplemented0x8D, .unimplemented0x8E, .unimplemented0x8F].map some := by
  decide +kernel

theorem test_decode_row_9 :
    [0b10010000#8, 0b10010001#8, 0b10010010#8, 0b10010011#8,
      0b10010100#8, 0b10010101#8, 0b10010110#8, 0b10010111#8,
      0b10011000#8, 0b10011001#8, 0b10011010#8, 0b10011011#8,
      0b10011100#8, 0b10011101#8, 0b10011110#8, 0b10011111#8].map decodedWith3412 =
    [.unimplemented0x90, .unimplemented0x91, .unimplemented0x92, .unimplemented0x93,
      .unimplemented0x94, .unimplemented0x95, .unimplemented0x96, .unimplemented0x97,
      .unimplemented0x98, .unimplemented0x99, .unimplemented0x9A, .unimplemented0x9B,
      .unimplemented0x9C, .unimplemented0x9D, .unimplemented0x9E, .unimplemented0x9F].map some := by
  decide +kernel

theorem test_decode_row_A :
    [0b10100000#8, 0b10100001#8, 0b10100010#8, 0b10100011#8,
      0b10100100#8, 0b10100101#8, 0b10100110#8, 0b10100111#8,
      0b10101000#8, 0b10101001#8, 0b10101010#8, 0b10101011#8,
      0b10101100#8, 0b10101101#8, 0b10101110#8, 0b10101111#8].map decodedWith3412 =
    [.unimplemented0xA0, .unimplemented0xA1, .unimplemented0xA2, .unimplemented0xA3,
      .unimplemented0xA4, .unimplemented0xA5, .unimplemented0xA6, .unimplemented0xA7,
      .unimplemented0xA8, .unimplemented0xA9, .unimplemented0xAA, .unimplemented0xAB,
      .unimplemented0xAC, .unimplemented0xAD, .unimplemented0xAE, .unimplemented0xAF].map some := by
  decide +kernel

theorem test_decode_row_B :
    [0b10110000#8, 0b10110001#8, 0b10110010#8, 0b10110011#8,
      0b10110100#8, 0b10110101#8, 0b10110110#8, 0b10110111#8,
      0b10111000#8, 0b10111001#8, 0b10111010#8, 0b10111011#8,
      0b10111100#8, 0b10111101#8, 0b10111110#8, 0b10111111#8].map decodedWith3412 =
    [.unimplemented0xB0, .unimplemented0xB1, .unimplemented0xB2, .unimplemented0xB3,
      .unimplemented0xB4, .unimplemented0xB5, .unimplemented0xB6, .unimplemented0xB7,
      .unimplemented0xB8, .unimplemented0xB9, .unimplemented0xBA, .unimplemented0xBB,
      .unimplemented0xBC, .unimplemented0xBD, .unimplemented0xBE, .unimplemented0xBF].map some := by
  decide +kernel

theorem test_decode_row_C :
    [0b11000000#8, 0b11000001#8, 0b11000010#8, 0b11000011#8,
      0b11000100#8, 0b11000101#8, 0b11000110#8, 0b11000111#8,
      0b11001000#8, 0b11001001#8, 0b11001010#8, 0b11001011#8,
      0b11001100#8, 0b11001101#8, 0b11001110#8, 0b11001111#8].map decodedWith3412 =
    [.unimplemented0xC0, .unimplemented0xC1, .unimplemented0xC2, .unimplemented0xC3,
      .unimplemented0xC4, .unimplemented0xC5, .adi 0x34#8, .unimplemented0xC7,
      .unimplemented0xC8, .unimplemented0xC9, .unimplemented0xCA, .unimplemented0xCB,
      .unimplemented0xCC, .unimplemented0xCD, .unimplemented0xCE, .unimplemented0xCF].map some := by
  decide +kernel

theorem test_decode_row_D :
    [0b11010000#8, 0b11010001#8, 0b11010010#8, 0b11010011#8,
      0b11010100#8, 0b11010101#8, 0b11010110#8, 0b11010111#8,
      0b11011000#8, 0b11011001#8, 0b11011010#8, 0b11011011#8,
      0b11011100#8, 0b11011101#8, 0b11011110#8, 0b11011111#8].map decodedWith3412 =
    [.unimplemented0xD0, .unimplemented0xD1, .unimplemented0xD2, .unimplemented0xD3,
      .unimplemented0xD4, .unimplemented0xD5, .unimplemented0xD6, .unimplemented0xD7,
      .unimplemented0xD8, .unimplemented0xD9, .unimplemented0xDA, .unimplemented0xDB,
      .unimplemented0xDC, .unimplemented0xDD, .unimplemented0xDE, .unimplemented0xDF].map some := by
  decide +kernel

theorem test_decode_row_E :
    [0b11100000#8, 0b11100001#8, 0b11100010#8, 0b11100011#8,
      0b11100100#8, 0b11100101#8, 0b11100110#8, 0b11100111#8,
      0b11101000#8, 0b11101001#8, 0b11101010#8, 0b11101011#8,
      0b11101100#8, 0b11101101#8, 0b11101110#8, 0b11101111#8].map decodedWith3412 =
    [.unimplemented0xE0, .unimplemented0xE1, .unimplemented0xE2, .unimplemented0xE3,
      .unimplemented0xE4, .unimplemented0xE5, .unimplemented0xE6, .unimplemented0xE7,
      .unimplemented0xE8, .unimplemented0xE9, .unimplemented0xEA, .unimplemented0xEB,
      .unimplemented0xEC, .unimplemented0xED, .unimplemented0xEE, .unimplemented0xEF].map some := by
  decide +kernel

theorem test_decode_row_F :
    [0b11110000#8, 0b11110001#8, 0b11110010#8, 0b11110011#8,
      0b11110100#8, 0b11110101#8, 0b11110110#8, 0b11110111#8,
      0b11111000#8, 0b11111001#8, 0b11111010#8, 0b11111011#8,
      0b11111100#8, 0b11111101#8, 0b11111110#8, 0b11111111#8].map decodedWith3412 =
    [.unimplemented0xF0, .unimplemented0xF1, .unimplemented0xF2, .unimplemented0xF3,
      .unimplemented0xF4, .unimplemented0xF5, .unimplemented0xF6, .unimplemented0xF7,
      .unimplemented0xF8, .unimplemented0xF9, .unimplemented0xFA, .unimplemented0xFB,
      .unimplemented0xFC, .unimplemented0xFD, .unimplemented0xFE, .unimplemented0xFF].map some := by
  decide +kernel

/-- The host's numbering: bit 0 of the word is bit 0 of the first byte; bits above `nbits` are 0. -/
theorem test_decodeTableWord :
    decodeTableWord 24 0x123421 = some (.lxiH 0x1234#16) ∧
    decodeTableWord 8 0x123421 = some (.lxiH 0x0000#16) ∧
    decodeTableWord 16 0x053E = some (.mviA 0x05#8) ∧
    decodeTableWord 8 0xFF = some .unimplemented0xFF := by decide +kernel

/-! ### One step (spec/95_test_vectors.md) -/

/-- A, B, C, D, E, H, L, F; PC, SP; halted; count, after one step. -/
def afterStep (s : State) : Option (List Byte × List Word × Bool × Nat) :=
  match step s with
  | .next t => some ([t.a, t.b, t.c, t.d, t.e, t.h, t.l, t.f], [t.pc, t.sp], t.halted, t.count)
  | .fault _ => none
  | .refused _ => none

/-- The listed memory after one step. -/
def memAfterStep (s : State) : Option Memory :=
  match step s with
  | .next t => some t.mem
  | .fault _ => none
  | .refused _ => none

/-- The identity and number of the snapshot that one step emits. -/
def markAfterStep (s : State) : Option (Report × Nat) :=
  match step s with
  | .next t => t.trace.head?.map fun snap => (snap.what, snap.seq)
  | .fault _ => none
  | .refused _ => none

/-- Vector T1. -/
theorem test_T1_mov_a_b :
    afterStep { State.reset with b := 0x5C#8, pc := 0x0010#16, mem := [(0x0010, 0x78#8)] } =
      some ([0x5C#8, 0x5C#8, 0x00#8, 0x00#8, 0x00#8, 0x00#8, 0x00#8, 0x00#8], [0x0011#16, 0xFFFF#16], false, 1) := by
  decide +kernel

/-- Vector T2. -/
theorem test_T2_mov_a_c :
    afterStep { State.reset with a := 0x12#8, c := 0xFF#8, f := 0x84#8, mem := [(0x0000, 0x79#8)] } =
      some ([0xFF#8, 0x00#8, 0xFF#8, 0x00#8, 0x00#8, 0x00#8, 0x00#8, 0x84#8], [0x0001#16, 0xFFFF#16], false, 1) := by
  decide +kernel

/-- Vector T3. -/
theorem test_T3_mov_a_d :
    afterStep { State.reset with a := 0x55#8, d := 0x00#8, mem := [(0x0000, 0x7A#8)] } =
      some ([0x00#8, 0x00#8, 0x00#8, 0x00#8, 0x00#8, 0x00#8, 0x00#8, 0x00#8], [0x0001#16, 0xFFFF#16], false, 1) := by
  decide +kernel

/-- Vector T4. -/
theorem test_T4_mov_a_e :
    afterStep { State.reset with e := 0x01#8, mem := [(0x0000, 0x7B#8)] } =
      some ([0x01#8, 0x00#8, 0x00#8, 0x00#8, 0x01#8, 0x00#8, 0x00#8, 0x00#8], [0x0001#16, 0xFFFF#16], false, 1) := by
  decide +kernel

/-- Vector T5. -/
theorem test_T5_mov_a_h :
    afterStep { State.reset with h := 0x80#8, l := 0x7F#8, mem := [(0x0000, 0x7C#8)] } =
      some ([0x80#8, 0x00#8, 0x00#8, 0x00#8, 0x00#8, 0x80#8, 0x7F#8, 0x00#8], [0x0001#16, 0xFFFF#16], false, 1) := by
  decide +kernel

/-- Vector T6. -/
theorem test_T6_mov_a_l :
    afterStep { State.reset with h := 0x80#8, l := 0x7F#8, mem := [(0x0000, 0x7D#8)] } =
      some ([0x7F#8, 0x00#8, 0x00#8, 0x00#8, 0x00#8, 0x80#8, 0x7F#8, 0x00#8], [0x0001#16, 0xFFFF#16], false, 1) := by
  decide +kernel

/-- Vector T7. -/
theorem test_T7_mov_a_a :
    afterStep { State.reset with a := 0x9A#8, mem := [(0x0000, 0x7F#8)] } =
      some ([0x9A#8, 0x00#8, 0x00#8, 0x00#8, 0x00#8, 0x00#8, 0x00#8, 0x00#8], [0x0001#16, 0xFFFF#16], false, 1) := by
  decide +kernel

/-- Vector T8. -/
theorem test_T8_mov_a_m_own_opcode :
    afterStep { State.reset with h := 0x01#8, l := 0x00#8, pc := 0x0100#16, mem := [(0x0100, 0x7E#8)] } =
      some ([0x7E#8, 0x00#8, 0x00#8, 0x00#8, 0x00#8, 0x01#8, 0x00#8, 0x00#8], [0x0101#16, 0xFFFF#16], false, 1) := by
  decide +kernel

/-- Vector S7b. -/
theorem test_S7b_mov_a_m_new_l :
    afterStep { State.reset with a := 0x7A#8, h := 0x00#8, l := 0x06#8, pc := 0x0100#16, mem := [(0x0005, 0x7A#8), (0x0006, 0x3C#8), (0x0100, 0x7E#8)] } =
      some ([0x3C#8, 0x00#8, 0x00#8, 0x00#8, 0x00#8, 0x00#8, 0x06#8, 0x00#8], [0x0101#16, 0xFFFF#16], false, 1) := by
  decide +kernel

/-- Vector I1. -/
theorem test_I1_mvi_b :
    afterStep { State.reset with mem := [(0x0000, 0x06#8), (0x0001, 0x11#8)] } =
      some ([0x00#8, 0x11#8, 0x00#8, 0x00#8, 0x00#8, 0x00#8, 0x00#8, 0x00#8], [0x0002#16, 0xFFFF#16], false, 1) := by
  decide +kernel

/-- Vector I2. -/
theorem test_I2_mvi_c :
    afterStep { State.reset with mem := [(0x0000, 0x0E#8), (0x0001, 0x22#8)] } =
      some ([0x00#8, 0x00#8, 0x22#8, 0x00#8, 0x00#8, 0x00#8, 0x00#8, 0x00#8], [0x0002#16, 0xFFFF#16], false, 1) := by
  decide +kernel

/-- Vector I3. -/
theorem test_I3_mvi_d :
    afterStep { State.reset with mem := [(0x0000, 0x16#8), (0x0001, 0x33#8)] } =
      some ([0x00#8, 0x00#8, 0x00#8, 0x33#8, 0x00#8, 0x00#8, 0x00#8, 0x00#8], [0x0002#16, 0xFFFF#16], false, 1) := by
  decide +kernel

/-- Vector I4. -/
theorem test_I4_mvi_e :
    afterStep { State.reset with mem := [(0x0000, 0x1E#8), (0x0001, 0x44#8)] } =
      some ([0x00#8, 0x00#8, 0x00#8, 0x00#8, 0x44#8, 0x00#8, 0x00#8, 0x00#8], [0x0002#16, 0xFFFF#16], false, 1) := by
  decide +kernel

/-- Vector I5. -/
theorem test_I5_mvi_h :
    afterStep { State.reset with mem := [(0x0000, 0x26#8), (0x0001, 0x55#8)] } =
      some ([0x00#8, 0x00#8, 0x00#8, 0x00#8, 0x00#8, 0x55#8, 0x00#8, 0x00#8], [0x0002#16, 0xFFFF#16], false, 1) := by
  decide +kernel

/-- Vector I6. -/
theorem test_I6_mvi_l :
    afterStep { State.reset with mem := [(0x0000, 0x2E#8), (0x0001, 0x66#8)] } =
      some ([0x00#8, 0x00#8, 0x00#8, 0x00#8, 0x00#8, 0x00#8, 0x66#8, 0x00#8], [0x0002#16, 0xFFFF#16], false, 1) := by
  decide +kernel

/-- Vector I8. -/
theorem test_I8_mvi_a_zero_keeps_flags :
    afterStep { State.reset with a := 0x42#8, f := 0x80#8, mem := [(0x0000, 0x3E#8)] } =
      some ([0x00#8, 0x00#8, 0x00#8, 0x00#8, 0x00#8, 0x00#8, 0x00#8, 0x80#8], [0x0002#16, 0xFFFF#16], false, 1) := by
  decide +kernel

/-- Vector I9. -/
theorem test_I9_mvi_a_wraps :
    afterStep { State.reset with pc := 0xFFFF#16, mem := [(0x0000, 0x99#8), (0xFFFF, 0x3E#8)] } =
      some ([0x99#8, 0x00#8, 0x00#8, 0x00#8, 0x00#8, 0x00#8, 0x00#8, 0x00#8], [0x0001#16, 0xFFFF#16], false, 1) := by
  decide +kernel

/-- Vector I10. -/
theorem test_I10_unimplemented_36_takes_no_operand :
    afterStep { State.reset with mem := [(0x0000, 0x36#8), (0x0001, 0x3E#8)] } =
      some ([0x00#8, 0x00#8, 0x00#8, 0x00#8, 0x00#8, 0x00#8, 0x00#8, 0x00#8], [0x0001#16, 0xFFFF#16], false, 1) := by
  decide +kernel

/-- Vector X1. -/
theorem test_X1_lxi_b :
    afterStep { State.reset with mem := [(0x0000, 0x01#8), (0x0001, 0xCD#8), (0x0002, 0xAB#8)] } =
      some ([0x00#8, 0xAB#8, 0xCD#8, 0x00#8, 0x00#8, 0x00#8, 0x00#8, 0x00#8], [0x0003#16, 0xFFFF#16], false, 1) := by
  decide +kernel

/-- Vector X2. -/
theorem test_X2_lxi_d :
    afterStep { State.reset with mem := [(0x0000, 0x11#8), (0x0001, 0x34#8), (0x0002, 0x12#8)] } =
      some ([0x00#8, 0x00#8, 0x00#8, 0x12#8, 0x34#8, 0x00#8, 0x00#8, 0x00#8], [0x0003#16, 0xFFFF#16], false, 1) := by
  decide +kernel

/-- Vector X3. -/
theorem test_X3_lxi_h :
    afterStep { State.reset with mem := [(0x0000, 0x21#8), (0x0001, 0x34#8), (0x0002, 0x12#8)] } =
      some ([0x00#8, 0x00#8, 0x00#8, 0x00#8, 0x00#8, 0x12#8, 0x34#8, 0x00#8], [0x0003#16, 0xFFFF#16], false, 1) := by
  decide +kernel

/-- Vector X6. -/
theorem test_X6_lxi_h_straddles_top :
    afterStep { State.reset with pc := 0xFFFE#16, mem := [(0x0000, 0x12#8), (0xFFFE, 0x21#8), (0xFFFF, 0x34#8)] } =
      some ([0x00#8, 0x00#8, 0x00#8, 0x00#8, 0x00#8, 0x12#8, 0x34#8, 0x00#8], [0x0001#16, 0xFFFF#16], false, 1) := by
  decide +kernel

/-- Vector X4. -/
theorem test_X4_lxi_sp :
    afterStep { State.reset with mem := [(0x0000, 0x31#8), (0x0002, 0x20#8)] } =
      some ([0x00#8, 0x00#8, 0x00#8, 0x00#8, 0x00#8, 0x00#8, 0x00#8, 0x00#8], [0x0003#16, 0x2000#16], false, 1) := by
  decide +kernel

/-- Vector M2. -/
theorem test_M2_sta_zero_overwrites :
    afterStep { State.reset with a := 0x00#8, mem := [(0x0000, 0x32#8), (0x0002, 0x30#8), (0x3000, 0x5A#8)] } =
      some ([0x00#8, 0x00#8, 0x00#8, 0x00#8, 0x00#8, 0x00#8, 0x00#8, 0x00#8], [0x0003#16, 0xFFFF#16], false, 1) ∧
    memAfterStep { State.reset with a := 0x00#8, mem := [(0x0000, 0x32#8), (0x0002, 0x30#8), (0x3000, 0x5A#8)] } = some [(0x0000, 0x32#8), (0x0002, 0x30#8)] := by
  decide +kernel

/-- Vector M7. -/
theorem test_M7_sta_wraps :
    afterStep { State.reset with a := 0x5A#8, pc := 0xFFFF#16, mem := [(0x0001, 0x80#8), (0xFFFF, 0x32#8)] } =
      some ([0x5A#8, 0x00#8, 0x00#8, 0x00#8, 0x00#8, 0x00#8, 0x00#8, 0x00#8], [0x0002#16, 0xFFFF#16], false, 1) ∧
    memAfterStep { State.reset with a := 0x5A#8, pc := 0xFFFF#16, mem := [(0x0001, 0x80#8), (0xFFFF, 0x32#8)] } = some [(0x0001, 0x80#8), (0x8000, 0x5A#8), (0xFFFF, 0x32#8)] := by
  decide +kernel

/-- Vector A1. -/
theorem test_A1_add_b :
    afterStep { State.reset with a := 0x05#8, b := 0x03#8, mem := [(0x0000, 0x80#8)] } =
      some ([0x08#8, 0x03#8, 0x00#8, 0x00#8, 0x00#8, 0x00#8, 0x00#8, 0x00#8], [0x0001#16, 0xFFFF#16], false, 1) := by
  decide +kernel

/-- Vector A12. -/
theorem test_A12_add_b_keeps_five_flag_bits :
    afterStep { State.reset with a := 0xFF#8, b := 0x01#8, f := 0x3B#8, mem := [(0x0000, 0x80#8)] } =
      some ([0x00#8, 0x01#8, 0x00#8, 0x00#8, 0x00#8, 0x00#8, 0x00#8, 0x7F#8], [0x0001#16, 0xFFFF#16], false, 1) := by
  decide +kernel

/-- Vector A2. -/
theorem test_A2_add_c :
    afterStep { State.reset with a := 0xFF#8, c := 0x01#8, mem := [(0x0000, 0x81#8)] } =
      some ([0x00#8, 0x00#8, 0x01#8, 0x00#8, 0x00#8, 0x00#8, 0x00#8, 0x44#8], [0x0001#16, 0xFFFF#16], false, 1) := by
  decide +kernel

/-- Vector A3. -/
theorem test_A3_add_d :
    afterStep { State.reset with a := 0x7F#8, d := 0x01#8, mem := [(0x0000, 0x82#8)] } =
      some ([0x80#8, 0x00#8, 0x00#8, 0x01#8, 0x00#8, 0x00#8, 0x00#8, 0x80#8], [0x0001#16, 0xFFFF#16], false, 1) := by
  decide +kernel

/-- Vector A4. -/
theorem test_A4_add_e :
    afterStep { State.reset with a := 0xF0#8, e := 0x0F#8, mem := [(0x0000, 0x83#8)] } =
      some ([0xFF#8, 0x00#8, 0x00#8, 0x00#8, 0x0F#8, 0x00#8, 0x00#8, 0x84#8], [0x0001#16, 0xFFFF#16], false, 1) := by
  decide +kernel

/-- Vector A5. -/
theorem test_A5_add_h :
    afterStep { State.reset with a := 0x01#8, h := 0x02#8, mem := [(0x0000, 0x84#8)] } =
      some ([0x03#8, 0x00#8, 0x00#8, 0x00#8, 0x00#8, 0x02#8, 0x00#8, 0x04#8], [0x0001#16, 0xFFFF#16], false, 1) := by
  decide +kernel

/-- Vector A6. -/
theorem test_A6_add_l :
    afterStep { State.reset with a := 0xC0#8, l := 0xC0#8, mem := [(0x0000, 0x85#8)] } =
      some ([0x80#8, 0x00#8, 0x00#8, 0x00#8, 0x00#8, 0x00#8, 0xC0#8, 0x80#8], [0x0001#16, 0xFFFF#16], false, 1) := by
  decide +kernel

/-- Vector A7. -/
theorem test_A7_add_a :
    afterStep { State.reset with a := 0x80#8, mem := [(0x0000, 0x87#8)] } =
      some ([0x00#8, 0x00#8, 0x00#8, 0x00#8, 0x00#8, 0x00#8, 0x00#8, 0x44#8], [0x0001#16, 0xFFFF#16], false, 1) := by
  decide +kernel

/-- Vector A9. -/
theorem test_A9_add_a_odd :
    afterStep { State.reset with a := 0xFF#8, mem := [(0x0000, 0x87#8)] } =
      some ([0xFE#8, 0x00#8, 0x00#8, 0x00#8, 0x00#8, 0x00#8, 0x00#8, 0x80#8], [0x0001#16, 0xFFFF#16], false, 1) := by
  decide +kernel

/-- Vector A13. -/
theorem test_A13_add_m :
    afterStep { State.reset with a := 0xF1#8, h := 0x20#8, l := 0x10#8, pc := 0x0040#16, mem := [(0x0040, 0x86#8), (0x2010, 0x0F#8)] } =
      some ([0x00#8, 0x00#8, 0x00#8, 0x00#8, 0x00#8, 0x20#8, 0x10#8, 0x44#8], [0x0041#16, 0xFFFF#16], false, 1) := by
  decide +kernel

/-- Vector A14. -/
theorem test_A14_add_m_own_opcode :
    afterStep { State.reset with a := 0x01#8, h := 0x02#8, l := 0x00#8, pc := 0x0200#16, mem := [(0x0200, 0x86#8)] } =
      some ([0x87#8, 0x00#8, 0x00#8, 0x00#8, 0x00#8, 0x02#8, 0x00#8, 0x84#8], [0x0201#16, 0xFFFF#16], false, 1) := by
  decide +kernel

/-- Vector A17. -/
theorem test_A17_adi_ff :
    afterStep { State.reset with a := 0x01#8, mem := [(0x0000, 0xC6#8), (0x0001, 0xFF#8)] } =
      some ([0x00#8, 0x00#8, 0x00#8, 0x00#8, 0x00#8, 0x00#8, 0x00#8, 0x44#8], [0x0002#16, 0xFFFF#16], false, 1) := by
  decide +kernel

/-- Vector A21. -/
theorem test_A21_adi_wraps :
    afterStep { State.reset with a := 0x10#8, pc := 0xFFFF#16, mem := [(0x0000, 0x05#8), (0xFFFF, 0xC6#8)] } =
      some ([0x15#8, 0x00#8, 0x00#8, 0x00#8, 0x00#8, 0x00#8, 0x00#8, 0x00#8], [0x0001#16, 0xFFFF#16], false, 1) := by
  decide +kernel

/-- Vector C4. -/
theorem test_C4_nop_wraps :
    afterStep { State.reset with pc := 0xFFFF#16, mem := [] } =
      some ([0x00#8, 0x00#8, 0x00#8, 0x00#8, 0x00#8, 0x00#8, 0x00#8, 0x00#8], [0x0000#16, 0xFFFF#16], false, 1) := by
  decide +kernel

/-- Vector C3. -/
theorem test_C3_hlt_wraps :
    afterStep { State.reset with pc := 0xFFFF#16, mem := [(0xFFFF, 0x76#8)] } =
      some ([0x00#8, 0x00#8, 0x00#8, 0x00#8, 0x00#8, 0x00#8, 0x00#8, 0x00#8], [0x0000#16, 0xFFFF#16], true, 1) := by
  decide +kernel

/-- Vector S8. -/
theorem test_S8_unimplemented_ff :
    afterStep { State.reset with a := 0x12#8, b := 0x34#8, f := 0x84#8, pc := 0x0100#16, sp := 0x2000#16, mem := [(0x0100, 0xFF#8)] } =
      some ([0x12#8, 0x34#8, 0x00#8, 0x00#8, 0x00#8, 0x00#8, 0x00#8, 0x84#8], [0x0101#16, 0x2000#16], false, 1) := by
  decide +kernel

/-- Vector U6. -/
theorem test_U6_unimplemented_c3 :
    afterStep { State.reset with a := 0xA5#8, h := 0x12#8, l := 0x34#8, f := 0x04#8, pc := 0x0030#16, mem := [(0x0030, 0xC3#8), (0x0031, 0x76#8)] } =
      some ([0xA5#8, 0x00#8, 0x00#8, 0x00#8, 0x00#8, 0x12#8, 0x34#8, 0x04#8], [0x0031#16, 0xFFFF#16], false, 1) := by
  decide +kernel

/-- Vector M3: `STA` onto its own low operand byte writes it after reading it. -/
theorem test_M3_sta_own_operand :
    memAfterStep { State.reset with a := 0x77#8, pc := 0x0010#16, mem := [(0x0010, 0x32#8), (0x0011, 0x11#8)] } =
      some [(0x0010, 0x32#8), (0x0011, 0x77#8)] := by decide +kernel

/-- Vectors S8, C1, C2: the mark of an unimplemented opcode, of `NOP` and of `HLT`; the first snapshot has
number 1 (C9). -/
theorem test_snapshot_marks :
    markAfterStep { State.reset with mem := [(0x0000, 0xFF#8)] } = some (.unimplemented 0xFF#8, 1) ∧
    markAfterStep State.reset = some (.executed .nop, 1) ∧
    markAfterStep { State.reset with mem := [(0x0000, 0x76#8)] } = some (.executed .hlt, 1) := by
  decide +kernel

/-- The window of a snapshot wraps at the top of memory (R108). -/
theorem test_window_wraps :
    State.windowBytes { State.reset with mem := [(0x0000, 0x11#8), (0xFFFF, 0x22#8)] }
      ⟨0xFFFF#16, 3⟩ = [0x22#8, 0x11#8, 0x00#8] := by decide +kernel

/-- Table 2.1 of the vectors: UpdateFlags from F = 00 and from F = 3B. -/
theorem test_updateFlags_table :
    [0x00#8, 0x01#8, 0x02#8, 0x03#8, 0x07#8, 0x08#8, 0x0F#8, 0x55#8,
      0x7E#8, 0x7F#8, 0x80#8, 0x81#8, 0xAA#8, 0xFE#8, 0xFF#8].map
      (fun v => (updateFlags v 0x00#8, updateFlags v 0x3B#8)) =
    [(0x44#8, 0x7F#8), (0x00#8, 0x3B#8), (0x00#8, 0x3B#8), (0x04#8, 0x3F#8),
      (0x00#8, 0x3B#8), (0x00#8, 0x3B#8), (0x04#8, 0x3F#8), (0x04#8, 0x3F#8),
      (0x04#8, 0x3F#8), (0x00#8, 0x3B#8), (0x80#8, 0xBB#8), (0x84#8, 0xBF#8),
      (0x84#8, 0xBF#8), (0x80#8, 0xBB#8), (0x84#8, 0xBF#8)] := by decide +kernel

/-- A halted machine stays as it is (R19, R93). -/
theorem test_halted_keeps_pc_and_count :
    afterStep { State.reset with pc := 0x0006#16, halted := true, count := 4 } =
      some ([0x00#8, 0x00#8, 0x00#8, 0x00#8, 0x00#8, 0x00#8, 0x00#8, 0x00#8],
        [0x0006#16, 0xFFFF#16], true, 4) := by decide +kernel

/-- The host's aid: the placed instruction is the one that the first step after reset runs. -/
theorem test_withFetchWord_runs :
    afterStep (State.reset.withFetchWord 24 0x20003E) =
      some ([0x00#8, 0x00#8, 0x00#8, 0x00#8, 0x00#8, 0x00#8, 0x00#8, 0x00#8],
        [0x0002#16, 0xFFFF#16], false, 1) ∧
    markAfterStep (State.reset.withFetchWord 8 0xFE) = some (.unimplemented 0xFE#8, 1) := by
  decide +kernel

/-! ### Witnesses: a concrete state and operands that meet the hypotheses of each statement -/

/-- A running machine with a program loaded at 0x0000. -/
def loaded (program : List Byte) : State :=
  { State.reset with mem := Memory.load [] 0x0000#16 program }

/-- A running machine with `i` at PC: what RunsAs and the statements about a step ask for. -/
def RunningAt (s : State) (i : Instr) : Prop := s.halted = false ∧ s.AtPc i

theorem witness_MovARegisterCopiesSource :
    RunningAt (loaded [0x78#8]) (.movAB) ∧
    RunningAt (loaded [0x79#8]) (.movAC) ∧
    RunningAt (loaded [0x7A#8]) (.movAD) ∧
    RunningAt (loaded [0x7B#8]) (.movAE) ∧
    RunningAt (loaded [0x7C#8]) (.movAH) ∧
    RunningAt (loaded [0x7D#8]) (.movAL) ∧
    RunningAt (loaded [0x7F#8]) (.movAA) := by
  refine ⟨⟨rfl, _, rfl⟩, ⟨rfl, _, rfl⟩, ⟨rfl, _, rfl⟩, ⟨rfl, _, rfl⟩, ⟨rfl, _, rfl⟩, ⟨rfl, _, rfl⟩, ⟨rfl, _, rfl⟩⟩

theorem witness_MovAMemoryCopiesByteAtHL :
    RunningAt (loaded [0x7E#8]) (.movAM) := ⟨rfl, _, rfl⟩

theorem witness_MviLoadsOperandByte :
    RunningAt (loaded [0x06#8, 0x34#8]) (.mviB 0x34#8) ∧
    RunningAt (loaded [0x0E#8, 0x34#8]) (.mviC 0x34#8) ∧
    RunningAt (loaded [0x16#8, 0x34#8]) (.mviD 0x34#8) ∧
    RunningAt (loaded [0x1E#8, 0x34#8]) (.mviE 0x34#8) ∧
    RunningAt (loaded [0x26#8, 0x34#8]) (.mviH 0x34#8) ∧
    RunningAt (loaded [0x2E#8, 0x34#8]) (.mviL 0x34#8) ∧
    RunningAt (loaded [0x3E#8, 0x34#8]) (.mviA 0x34#8) := by
  refine ⟨⟨rfl, _, rfl⟩, ⟨rfl, _, rfl⟩, ⟨rfl, _, rfl⟩, ⟨rfl, _, rfl⟩, ⟨rfl, _, rfl⟩, ⟨rfl, _, rfl⟩, ⟨rfl, _, rfl⟩⟩

theorem witness_LxiSpLoadsStackPointer :
    RunningAt (loaded [0x31#8, 0x34#8, 0x12#8]) (.lxiSP 0x1234#16) := ⟨rfl, _, rfl⟩

theorem witness_AddRegisterAddsModulo256 :
    RunningAt (loaded [0x80#8]) (.addB) ∧
    RunningAt (loaded [0x81#8]) (.addC) ∧
    RunningAt (loaded [0x82#8]) (.addD) ∧
    RunningAt (loaded [0x83#8]) (.addE) ∧
    RunningAt (loaded [0x84#8]) (.addH) ∧
    RunningAt (loaded [0x85#8]) (.addL) ∧
    RunningAt (loaded [0x87#8]) (.addA) := by
  refine ⟨⟨rfl, _, rfl⟩, ⟨rfl, _, rfl⟩, ⟨rfl, _, rfl⟩, ⟨rfl, _, rfl⟩, ⟨rfl, _, rfl⟩, ⟨rfl, _, rfl⟩, ⟨rfl, _, rfl⟩⟩

theorem witness_AddMemoryAddsByteAtHL :
    RunningAt (loaded [0x86#8]) (.addM) := ⟨rfl, _, rfl⟩

theorem witness_AdiAddsOperandByte :
    RunningAt (loaded [0xC6#8, 0x34#8]) (.adi 0x34#8) := ⟨rfl, _, rfl⟩

theorem witness_NopChangesOnlyPcAndCount :
    RunningAt (loaded [0x00#8]) (.nop) := ⟨rfl, _, rfl⟩

theorem witness_HltStopsTheMachine :
    RunningAt (loaded [0x76#8]) (.hlt) := ⟨rfl, _, rfl⟩

theorem witness_StaStoresAccumulatorAtOperandAddress :
    RunningAt (loaded [0x32#8, 0x34#8, 0x12#8]) (.sta 0x1234#16) := ⟨rfl, _, rfl⟩

theorem witness_LxiPairLoadsBothHalves :
    (0x1234#16).toNat = (0x12#8).toNat * 256 + (0x34#8).toNat ∧
    RunningAt (loaded [0x01#8, 0x34#8, 0x12#8]) (.lxiB 0x1234#16) ∧
    RunningAt (loaded [0x11#8, 0x34#8, 0x12#8]) (.lxiD 0x1234#16) ∧
    RunningAt (loaded [0x21#8, 0x34#8, 0x12#8]) (.lxiH 0x1234#16) :=
  ⟨rfl, ⟨rfl, _, rfl⟩, ⟨rfl, _, rfl⟩, ⟨rfl, _, rfl⟩⟩

/-- For StepRunsDecodedInstruction, PcAdvancesByInstructionLength (first part), SnapshotShowsStateAfterStep,
GeneralRegistersWrittenOnlyAsR11Lists, FlagsWrittenOnlyByAddFamily, OnlyHltHalts and
StackPointerIsWrittenOnlyByLxiSpAndReadByNone: a running machine with an instruction of each length at
PC. -/
theorem witness_StepRunsDecodedInstruction :
    RunningAt (loaded [0x80#8]) .addB ∧ RunningAt (loaded [0x3E#8, 0x05#8]) (.mviA 0x05#8) ∧
    RunningAt (loaded [0x31#8, 0x00#8, 0x20#8]) (.lxiSP 0x2000#16) :=
  ⟨⟨rfl, _, rfl⟩, ⟨rfl, _, rfl⟩, ⟨rfl, _, rfl⟩⟩

/-- For OnlyStaChangesMemory: a `STA` at PC, and an instruction that is none. -/
theorem witness_OnlyStaChangesMemory :
    RunningAt (loaded [0x32#8, 0x50#8, 0x00#8]) (.sta 0x0050#16) ∧
    RunningAt (loaded [0x7E#8]) .movAM ∧ ∀ a16 : Addr, Instr.movAM ≠ .sta a16 :=
  ⟨⟨rfl, _, rfl⟩, ⟨rfl, _, rfl⟩, fun _ h => by cases h⟩

/-- For StackPointerIsWrittenOnlyByLxiSpAndReadByNone, the clause of the other instructions. -/
theorem witness_StackPointerKept : ∀ d16 : Word, Instr.addB ≠ .lxiSP d16 :=
  fun _ h => by cases h

/-- For PcAdvancesByInstructionLength, the straddling `STA`. -/
theorem witness_PcAdvancesByInstructionLength :
    let s : State := { State.reset with pc := 0xFFFF#16, mem := [(0x0001, 0x80#8), (0xFFFF, 0x32#8)] }
    RunningAt s (.sta 0x8000#16) ∧ s.pc = 0xFFFF#16 :=
  ⟨⟨rfl, _, rfl⟩, rfl⟩

/-- For StepAlwaysCompletes, HaltedMachineKeepsItsState, UnimplementedMarkIffByteOutsideR54 and OnlyHltHalts:
a running machine and a halted one. -/
theorem witness_HaltedMachineKeepsItsState :
    (loaded [0xFF#8]).halted = false ∧ { loaded [0xFF#8] with halted := true }.halted = true ∧
    RunningAt (loaded [0xFF#8]) .unimplemented0xFF ∧
    (loaded [0xFF#8]).readByte (loaded [0xFF#8]).pc = 0xFF#8 ∧ 0xFF#8 ∉ implementedOpcodes :=
  ⟨rfl, rfl, ⟨rfl, _, rfl⟩, rfl, by decide⟩

/-- For RunGoesOnAndCountsEveryStep: a run of one step that leaves the machine running. -/
theorem witness_RunGoesOnAndCountsEveryStep :
    ∃ t : State, runSteps 1 (loaded [0x80#8]) = .next t ∧ t.halted = false := by
  obtain ⟨t, ht, hst⟩ := step_running (s := loaded [0x80#8]) rfl
  cases ht
  exact ⟨_, by rw [runSteps_succ, hst]; rfl, rfl⟩

/-- For StepKeepsInvariant: a machine that is about to execute `HLT` meets the invariant and has a next
state. -/
theorem witness_StepKeepsInvariant :
    ∃ s t : State, s.Inv ∧ s.AtPc .hlt ∧ step s = .next t := by
  have hInv : (loaded [0x76#8]).Inv := by
    refine ⟨by decide, by decide, rfl, fun _ _ h => ?_, ?_, fun _ h => ?_⟩
    · cases h
    · constructor
      · intro h; cases h
      · rintro ⟨_, _, h, _⟩; cases h
    · cases h
  obtain ⟨t, -, hst⟩ := step_running (s := loaded [0x76#8]) rfl
  exact ⟨loaded [0x76#8], _, hInv, ⟨_, rfl⟩, hst⟩

/-- For ReachableFlagBytesAreFive: from any image one step is taken. -/
theorem witness_ReachableFlagBytesAreFive :
    ∃ t : State, runSteps 1 (State.boot fun _ => 0x87#8) = .next t := by
  obtain ⟨t, -, hst⟩ := step_running (s := State.boot fun _ => 0x87#8) rfl
  exact ⟨_, by rw [runSteps_succ, hst]; rfl⟩

/-- For EncodeOfDecodedBytesGivesBytesBack: bytes of each length, with bytes after them. -/
theorem witness_EncodeOfDecodedBytesGivesBytesBack :
    decode [0x21#8, 0x34#8, 0x12#8, 0x76#8] = .ok (.lxiH 0x1234#16, [0x76#8]) ∧
    decode [0x3E#8, 0x05#8, 0x76#8] = .ok (.mviA 0x05#8, [0x76#8]) ∧
    decode [0xFF#8, 0x76#8] = .ok (.unimplemented0xFF, [0x76#8]) := ⟨rfl, rfl, rfl⟩

/-- For BytesOutsideR54AreUnimplemented: bytes on both sides of the ends of a range. -/
theorem witness_BytesOutsideR54AreUnimplemented :
    0x77#8 ∉ implementedOpcodes ∧ 0x78#8 ∈ implementedOpcodes ∧ 0x87#8 ∈ implementedOpcodes ∧
    0x88#8 ∉ implementedOpcodes := by decide

theorem witness_TableWordIsFetchedNext :
    decodeTableWord 8 0x78 = some .movAB ∧ decodeTableWord 24 0x123421 = some (.lxiH 0x1234#16) := by
  decide +kernel

/-- For FlagByteAfterAddFollowsR86: a flag byte with the five bits 0, and a value for each row. -/
theorem witness_FlagByteAfterAddFollowsR86 :
    0x84#8 &&& 0x3B#8 = 0x00#8 ∧ ones 0x7F#8 % 2 = 1 ∧ ones 0x03#8 % 2 = 0 ∧
    ones 0x80#8 % 2 = 1 ∧ ones 0xFF#8 % 2 = 0 := by decide

/-- For UnimplementedOpcodeIsReportedNoOp: the first and the last of the 225, and one at PC. -/
theorem witness_UnimplementedOpcodeIsReportedNoOp :
    Instr.unimplemented0x02.isUnimplemented = true ∧
    Instr.unimplemented0xFF.isUnimplemented = true ∧
    RunningAt (loaded [0x02#8]) .unimplemented0x02 ∧
    RunningAt (loaded [0xFF#8]) .unimplemented0xFF :=
  ⟨rfl, rfl, ⟨rfl, _, rfl⟩, ⟨rfl, _, rfl⟩⟩

/-- For FlagsSpCountAndTraceSteerNothing: two machines that differ in F, SP and the count. -/
theorem witness_FlagsSpCountAndTraceSteerNothing :
    (loaded [0x80#8]).AgreeButFlagsSpCount
      { loaded [0x80#8] with f := 0xFF#8, sp := 0x1234#16, count := 7 } :=
  ⟨rfl, rfl, rfl, rfl, rfl, rfl, rfl, rfl, rfl, rfl⟩

/-- For CanonicalMemoriesThatReadAlikeAreEqual. -/
theorem witness_CanonicalMemoriesThatReadAlikeAreEqual :
    ∃ m n : Memory, m.wf ∧ n.wf ∧ ∀ x : Addr, m.read x = n.read x :=
  ⟨[(0x0000, 0x76#8), (0xFFFF, 0x01#8)], _, by decide, by decide, fun _ => rfl⟩

/-- For StoredByteIsFetchedByNextStep: the `STA` writes the byte after it, and the next step finds an
instruction there. -/
theorem witness_StoredByteIsFetchedByNextStep :
    RunningAt (loaded [0x32#8, 0x03#8, 0x00#8]) (.sta 0x0003#16) ∧
    0x0003#16 = (loaded [0x32#8, 0x03#8, 0x00#8]).pc + 3#16 :=
  ⟨⟨rfl, _, rfl⟩, rfl⟩

/-- For MovAMemorySeesNewL: `MVI L` at PC, and `MOV A,M` at PC after it. -/
theorem witness_MovAMemorySeesNewL :
    RunningAt (loaded [0x2E#8, 0x40#8, 0x7E#8]) (.mviL 0x40#8) ∧
    ∃ t : State, step (loaded [0x2E#8, 0x40#8, 0x7E#8]) = .next t ∧ t.AtPc .movAM := by
  refine ⟨⟨rfl, _, rfl⟩, ?_⟩
  obtain ⟨t, ht, hst⟩ := step_running (s := loaded [0x2E#8, 0x40#8, 0x7E#8]) rfl
  cases ht
  exact ⟨_, hst, _, rfl⟩

/-- For MovChangesOnlyA, MviChangesOnlyItsRegister, LxiChangesOnlyItsPair, LxiSpChangesOnlySp,
AddFamilyChangesOnlyAAndThreeFlags, StaChangesOnlyItsByte and NopHltUnimplementedChangeNoData: exec
answers a next state. -/
theorem witness_frames :
    (∃ t, exec .movAB State.reset = .next t) ∧ (∃ t, exec .movAM State.reset = .next t) ∧
    (∃ t, exec (.mviL 0xFF#8) State.reset = .next t) ∧
    (∃ t, exec (.lxiD 0xFFFF#16) State.reset = .next t) ∧
    (∃ t, exec (.lxiSP 0x0000#16) State.reset = .next t) ∧
    (∃ t, exec .addA State.reset = .next t) ∧ (∃ t, exec (.adi 0xFF#8) State.reset = .next t) ∧
    (∃ t, exec (.sta 0xFFFF#16) State.reset = .next t) ∧
    (∃ t, exec .nop State.reset = .next t) ∧ (∃ t, exec .hlt State.reset = .next t) ∧
    (∃ t, exec .unimplemented0x36 State.reset = .next t) :=
  ⟨⟨_, rfl⟩, ⟨_, rfl⟩, ⟨_, rfl⟩, ⟨_, rfl⟩, ⟨_, rfl⟩, ⟨_, rfl⟩, ⟨_, rfl⟩, ⟨_, rfl⟩, ⟨_, rfl⟩, ⟨_, rfl⟩,
    ⟨_, rfl⟩⟩

end Sys2Proof.Machine
end

section
/-! PROOF. What one instruction can change, said once for each part of the state: the lemmas about the
kinds of effect (`ExecResult`) that the statements about the state (10_state.md) are proved from. -/

namespace Sys2Proof.Machine

/-! ### exec of each kind of instruction, as an equation -/

theorem exec_movOf (src : Option Reg8) (s : State) :
    exec (movOf src) s = .next (s.moveToA (srcOf src)) := by
  rcases src with _ | r
  · rfl
  · cases r <;> rfl

theorem exec_addOf (src : Option Reg8) (s : State) :
    exec (addOf src) s = .next (s.addToA (srcOf src)) := by
  rcases src with _ | r
  · rfl
  · cases r <;> rfl

theorem exec_mviOf (r : Reg8) (d8 : Byte) (s : State) :
    exec (mviOf r d8) s = .next (s.setReg r d8) := by cases r <;> rfl

theorem exec_lxiPairOf (p : RegPair) (d16 : Word) (s : State) :
    exec (lxiPairOf p d16) s = .next (s.setPair p d16) := by cases p <;> rfl

/-! ### Which kinds are unimplemented, and which are `HLT` -/

theorem movOf_ne_hlt (src : Option Reg8) : movOf src ≠ .hlt := by
  rcases src with _ | r
  · nofun
  · cases r <;> nofun

theorem addOf_ne_hlt (src : Option Reg8) : addOf src ≠ .hlt := by
  rcases src with _ | r
  · nofun
  · cases r <;> nofun

theorem mviOf_ne_hlt (r : Reg8) (d8 : Byte) : mviOf r d8 ≠ .hlt := by cases r <;> nofun

theorem lxiPairOf_ne_hlt (p : RegPair) (d16 : Word) : lxiPairOf p d16 ≠ .hlt := by
  cases p <;> nofun

theorem isUnimplemented_movOf (src : Option Reg8) : (movOf src).isUnimplemented = false := by
  rcases src with _ | r
  · rfl
  · cases r <;> rfl

theorem isUnimplemented_addOf (src : Option Reg8) : (addOf src).isUnimplemented = false := by
  rcases src with _ | r
  · rfl
  · cases r <;> rfl

theorem isUnimplemented_mviOf (r : Reg8) (d8 : Byte) :
    (mviOf r d8).isUnimplemented = false := by cases r <;> rfl

theorem isUnimplemented_lxiPairOf (p : RegPair) (d16 : Word) :
    (lxiPairOf p d16).isUnimplemented = false := by cases p <;> rfl

/-- An unimplemented opcode has no effect of its own (R94). -/
theorem exec_unimplemented {i : Instr} (h : i.isUnimplemented = true) (s : State) :
    exec i s = .next s := by
  obtain ⟨t, ht, hr⟩ := exec_result i s
  rw [ht]
  cases hr with
  | nothing => rfl
  | move src => simp [isUnimplemented_movOf] at h
  | loadByte r d8 => simp [isUnimplemented_mviOf] at h
  | loadPair p d16 => simp [isUnimplemented_lxiPairOf] at h
  | add src => simp [isUnimplemented_addOf] at h
  | loadSp | store | addImmediate | halt => cases h

/-! ### The halves of the pairs (R12) -/

theorem RegPair.high_ne_low (p : RegPair) : RegPair.high p ≠ RegPair.low p := by cases p <;> decide

theorem RegPair.high_ne_A (p : RegPair) : RegPair.high p ≠ .A := by cases p <;> decide

theorem RegPair.low_ne_A (p : RegPair) : RegPair.low p ≠ .A := by cases p <;> decide

/-- No register is a half of two pairs. -/
theorem RegPair.halves_disjoint {p q : RegPair} (h : p ≠ q) :
    RegPair.high p ≠ RegPair.high q ∧ RegPair.high p ≠ RegPair.low q ∧
      RegPair.low p ≠ RegPair.high q ∧ RegPair.low p ≠ RegPair.low q := by
  revert h
  cases p <;> cases q <;> decide

/-! ### What an instruction can write -/

/-- Moving and adding into A leave every other register alone. -/
theorem State.getReg_moveToA_ne {s : State} {src : Src} {r : Reg8} (h : r ≠ .A) :
    (s.moveToA src).getReg r = s.getReg r := s.getReg_setReg_ne .A r _ h

theorem State.getReg_addToA_ne {s : State} {src : Src} {r : Reg8} (h : r ≠ .A) :
    (s.addToA src).getReg r = s.getReg r := by
  cases r
  case A => exact absurd rfl h
  all_goals rfl

/-- A half of a pair is written only by its `MVI` and by the `LXI` of its pair (R11). -/
theorem exec_writes_half {i : Instr} {s t : State} (ht : exec i s = .next t) (p : RegPair)
    {r : Reg8} (hr : r = RegPair.high p ∨ r = RegPair.low p) (hne : t.getReg r ≠ s.getReg r) :
    (∃ d8, i = mviOf r d8) ∨ ∃ d16, i = lxiPairOf p d16 := by
  have hA : r ≠ .A := by
    rcases hr with rfl | rfl
    · exact RegPair.high_ne_A p
    · exact RegPair.low_ne_A p
  cases ExecResult.of_exec ht with
  | nothing | loadSp | store | halt => cases r <;> exact absurd rfl hne
  | move src => exact absurd (State.getReg_moveToA_ne hA) hne
  | add src => exact absurd (State.getReg_addToA_ne hA) hne
  | addImmediate d8 => exact absurd (State.getReg_addToA_ne hA) hne
  | loadByte r' d8 =>
    by_cases h : r = r'
    · exact .inl ⟨d8, by rw [h]⟩
    · exact absurd (s.getReg_setReg_ne r' r d8 h) hne
  | loadPair q d16 =>
    by_cases h : p = q
    · exact .inr ⟨d16, by rw [h]⟩
    · obtain ⟨hhh, hhl, hlh, hll⟩ := RegPair.halves_disjoint h
      rcases hr with rfl | rfl
      · exact absurd (s.getReg_setPair_ne _ q d16 hhh hhl) hne
      · exact absurd (s.getReg_setPair_ne _ q d16 hlh hll) hne

/-- A is written only by a move, an add, `MVI A` and `ADI` (R11). -/
theorem exec_writes_a {i : Instr} {s t : State} (ht : exec i s = .next t) (hne : t.a ≠ s.a) :
    (∃ src, i = movOf src) ∨ (∃ src, i = addOf src) ∨ (∃ d8, i = .mviA d8) ∨
      ∃ d8, i = .adi d8 := by
  cases ExecResult.of_exec ht with
  | nothing | loadSp | store | halt => exact absurd rfl hne
  | move src => exact .inl ⟨src, rfl⟩
  | add src => exact .inr (.inl ⟨src, rfl⟩)
  | addImmediate d8 => exact .inr (.inr (.inr ⟨d8, rfl⟩))
  | loadByte r d8 =>
    cases r
    case A => exact .inr (.inr (.inl ⟨d8, rfl⟩))
    all_goals exact absurd rfl hne
  | loadPair p d16 =>
    have hhigh := (RegPair.high_ne_A p).symm
    have hlow := (RegPair.low_ne_A p).symm
    exact absurd (s.getReg_setPair_ne .A p d16 hhigh hlow) hne

/-- F is written only by the accumulator-add family (R14), and then by UpdateFlags (R80). -/
theorem exec_writes_f {i : Instr} {s t : State} (ht : exec i s = .next t) :
    t.f = s.f ∨ ((∃ src, i = addOf src) ∨ ∃ d8, i = .adi d8) ∧ ∃ v, t.f = updateFlags v s.f := by
  cases ExecResult.of_exec ht with
  | nothing | move | loadSp | store | halt => exact .inl rfl
  | loadByte r d8 => exact .inl (s.setReg_f r d8)
  | loadPair p d16 => exact .inl (s.setPair_f p d16)
  | add src => exact .inr ⟨.inl ⟨src, rfl⟩, _, rfl⟩
  | addImmediate d8 => exact .inr ⟨.inr ⟨d8, rfl⟩, _, rfl⟩

/-- SP is written only by `LXI SP` (R17). -/
theorem exec_keeps_sp {i : Instr} {s t : State} (ht : exec i s = .next t)
    (hi : ∀ d16, i ≠ .lxiSP d16) : t.sp = s.sp := by
  cases ExecResult.of_exec ht with
  | nothing | move | store | add | addImmediate | halt => rfl
  | loadByte r d8 => exact s.setReg_sp r d8
  | loadPair p d16 => exact s.setPair_sp p d16
  | loadSp d16 => exact absurd rfl (hi d16)

/-- Memory is written only by `STA` (R21). -/
theorem exec_keeps_mem {i : Instr} {s t : State} (ht : exec i s = .next t)
    (hi : ∀ a16, i ≠ .sta a16) : t.mem = s.mem := by
  cases ExecResult.of_exec ht with
  | nothing | move | loadSp | add | addImmediate | halt => rfl
  | loadByte r d8 => exact s.setReg_mem r d8
  | loadPair p d16 => exact s.setPair_mem p d16
  | store a16 => exact absurd rfl (hi a16)

/-- The halted bit is set by `HLT` and written by nothing else (R19, R93). -/
theorem exec_halted_iff {i : Instr} {s t : State} (ht : exec i s = .next t) :
    t.halted = true ↔ s.halted = true ∨ i = .hlt := by
  cases ExecResult.of_exec ht with
  | halt => simp
  | nothing _ h =>
    have : i ≠ .hlt := by
      rintro rfl
      rcases h with h | h <;> cases h
    simp [this]
  | move src => simp [movOf_ne_hlt]
  | loadByte r d8 => simp [mviOf_ne_hlt]
  | loadPair p d16 => simp [lxiPairOf_ne_hlt]
  | add src => simp [addOf_ne_hlt]
  | loadSp | store | addImmediate => simp

/-- Every instruction keeps the canonical form of memory. -/
theorem exec_keeps_memWf {i : Instr} {s t : State} (ht : exec i s = .next t) (h : s.mem.wf) :
    t.mem.wf := by
  by_cases hi : ∃ a16, i = .sta a16
  · obtain ⟨a16, rfl⟩ := hi
    cases ht
    exact Memory.wf_write h a16 s.a
  · rw [exec_keeps_mem ht fun a16 ha => hi ⟨a16, ha⟩]
    exact h

/-! ### One step -/

/-- A running machine with `i` at PC executes `i` past its bytes and reports it (R90). -/
theorem step_of_atPc {s : State} {i : Instr} (hrun : s.halted = false) (hi : s.AtPc i) :
    ∃ t, exec i (s.pastBytes i.length) = .next t ∧ step s = .next (t.report i) := by
  obtain rfl := (s.atPc_iff i).mp hi
  exact step_running hrun

/-- All that a step can do: nothing when halted, else one instruction and its report (R19, R90). -/
theorem step_cases {s t : State} (h : step s = .next t) :
    (s.halted = true ∧ t = s) ∨
      (s.halted = false ∧ ∃ i u, s.AtPc i ∧ exec i (s.pastBytes i.length) = .next u ∧
        t = u.report i) := by
  cases hs : s.halted with
  | true =>
    rw [step_halted hs] at h
    cases h
    exact .inl ⟨rfl, rfl⟩
  | false =>
    obtain ⟨i, hi⟩ := s.exists_atPc
    obtain ⟨u, hu, hst⟩ := step_of_atPc hs hi
    rw [hst] at h
    cases h
    exact .inr ⟨rfl, i, u, hi, hu, rfl⟩

/-- The operand bytes of the instruction at PC are the bytes after the opcode byte, as many as its
format has (R50, R90). -/
theorem State.AtPc.operands {s : State} {i : Instr} (hi : s.AtPc i) :
    i.operands = [s.readByte (s.pc + 1#16), s.readByte (s.pc + 2#16)].take
      (formatOfOpcode (s.readByte s.pc)).operandCount := by
  have hadd : s.pc + 1#16 + 1#16 = s.pc + 2#16 := by rw [BitVec.add_assoc]; rfl
  rw [← (s.atPc_iff i).mp hi, s.fetchInstr_fst_eq, hadd]
  cases h : formatOfOpcode (s.readByte s.pc) <;>
    simp [operands_instrOfBytes, h, Format.operandCount]

/-- The opcode byte of the instruction at PC is the byte at PC. -/
theorem State.AtPc.opcode {s : State} {i : Instr} (hi : s.AtPc i) :
    i.opcode = s.readByte s.pc := by
  rw [← (s.atPc_iff i).mp hi, s.fetchInstr_opcode]

end Sys2Proof.Machine
end

section
/-! PROOF. The invariant `State.Inv`: it holds at reset and every step keeps it. -/

namespace Sys2Proof.Machine

/-- On a flag byte whose kept bits are 0, UpdateFlags gives one of the five values (R13, R86): Zero
excludes Sign and brings Parity. -/
theorem updateFlags_mem_reachableFlags (v : Byte) {f : Byte} (hf : f &&& keptMask = 0x00#8) :
    updateFlags v f ∈ reachableFlags := by
  rw [updateFlags, hf]
  by_cases hv : v = 0x00#8
  · subst hv
    decide
  · have hz : zeroOf v = false := by simp [zeroOf, hv]
    rw [hz]
    cases signOf v <;> cases parityOf v <;> decide

/-- The five values have bits 5, 4, 3, 1 and 0 clear (R13). -/
theorem and_keptMask_of_mem_reachableFlags :
    ∀ f ∈ reachableFlags, f &&& keptMask = 0x00#8 := by decide

theorem exec_keeps_reachableFlags {i : Instr} {s t : State} (ht : exec i s = .next t)
    (hf : s.f ∈ reachableFlags) : t.f ∈ reachableFlags := by
  obtain h | ⟨-, v, h⟩ := exec_writes_f ht <;> rw [h]
  · exact hf
  · exact updateFlags_mem_reachableFlags v (and_keptMask_of_mem_reachableFlags s.f hf)

/-- Only `HLT` is reported as an executed `HLT`. -/
theorem reportOf_eq_hlt_iff (i : Instr) : reportOf i = .executed .hlt ↔ i = .hlt := by
  constructor
  · intro h
    cases hu : i.isUnimplemented <;> simp [reportOf, hu] at h
    exact h
  · rintro rfl
    rfl

/-- While the machine runs, no snapshot is that of `HLT`. -/
theorem State.Inv.no_hlt_of_running {s : State} (hs : s.Inv) (hrun : s.halted = false) :
    ∀ snap ∈ s.trace, snap.what ≠ .executed .hlt := by
  intro snap hsnap hwhat
  cases htr : s.trace with
  | nil => simp [htr] at hsnap
  | cons last older =>
    rw [htr, List.mem_cons] at hsnap
    rcases hsnap with rfl | hold
    · have := hs.haltedIff.mpr ⟨snap, older, htr, hwhat⟩
      simp [hrun] at this
    · exact hs.haltIsLast snap (by rw [htr]; exact hold) hwhat

/-- Executing and reporting one instruction keeps the invariant. -/
theorem inv_report_of_exec {s u : State} {i : Instr} {n : Nat} (hs : s.Inv)
    (hrun : s.halted = false) (hu : exec i (s.pastBytes n) = .next u) : (u.report i).Inv := by
  obtain ⟨-, hcount, htrace⟩ := exec_frame hu
  rw [State.pastBytes_count] at hcount
  rw [State.pastBytes_trace] at htrace
  constructor
  case memWf => exact (exec_keeps_memWf hu hs.memWf :)
  case flags => exact (exec_keeps_reachableFlags hu hs.flags :)
  case numbered =>
    have hseq : (u.incrementCount.snapshot Config.traceWindow (reportOf i)).seq = s.count + 1 := by
      rw [← hcount]; rfl
    simp [hcount, htrace, hs.numbered, hseq, List.range_succ]
  case latest =>
    intro snap older h
    cases h
    rfl
  case haltedIff =>
    have : u.halted = true ↔ i = .hlt := by simpa [hrun] using exec_halted_iff hu
    rw [State.report_halted, this, ← reportOf_eq_hlt_iff]
    constructor
    · exact fun h => ⟨_, _, rfl, h⟩
    · rintro ⟨snap, older, h, hwhat⟩
      cases h
      exact hwhat
  case haltIsLast =>
    rw [State.report_trace, List.tail_cons, htrace]
    exact hs.no_hlt_of_running hrun

/-- A machine at the reset values that has reported nothing meets the invariant, whatever canonical
memory it has. -/
theorem inv_reset_with {m : Memory} (hm : m.wf) : State.Inv { State.reset with mem := m } where
  memWf := hm
  flags := .head _
  numbered := rfl
  latest _ _ h := by cases h
  haltedIff := by
    constructor
    · intro h
      cases h
    · rintro ⟨_, _, h, _⟩
      cases h
  haltIsLast _ h := by cases h

/-- Settles O4: a halted step changes nothing, a running one is covered by `inv_report_of_exec`. -/
theorem stepKeepsInvariant : Obligations.StepKeepsInvariant := by
  intro s t hs h
  obtain ⟨-, rfl⟩ | ⟨hrun, i, u, -, hu, rfl⟩ := step_cases h
  · exact hs
  · exact inv_report_of_exec hs hrun hu

/-- Settles O3: `State.reset` and `State.boot` are the reset values over a canonical memory. -/
theorem invariantHoldsAtReset : Obligations.InvariantHoldsAtReset :=
  ⟨inv_reset_with Memory.wf_nil, fun image => inv_reset_with (Memory.wf_ofImage image)⟩

/-- Settles O5: the invariant holds along every run from reset. -/
theorem reachableFlagBytesAreFive : Obligations.ReachableFlagBytesAreFive := by
  intro image k t hrun
  have hinv : t.Inv := runSteps_keeps stepKeepsInvariant (invariantHoldsAtReset.2 image) hrun
  exact ⟨hinv.flags, and_keptMask_of_mem_reachableFlags t.f hinv.flags⟩

end Sys2Proof.Machine
end

section
/-! PROOF. F, SP, the count and the trace steer nothing: putting other values there commutes with every
step, up to what is put there. -/

namespace Sys2Proof.Machine

/-- The state with other values in the four fields that no instruction acts on. -/
def State.withUnread (s : State) (f : Byte) (sp : Word) (count : Nat) (trace : List Snapshot) :
    State :=
  { s with f, sp, count, trace }

@[simp] theorem State.readSrc_withUnread (s : State) (f : Byte) (sp : Word) (count : Nat)
    (trace : List Snapshot) (src : Src) :
    (s.withUnread f sp count trace).readSrc src = s.readSrc src := by
  cases src with
  | reg r => cases r <;> rfl
  | mem | imm => rfl

theorem State.moveToA_withUnread (s : State) (f : Byte) (sp : Word) (count : Nat)
    (trace : List Snapshot) (src : Src) :
    (s.withUnread f sp count trace).moveToA src =
      (s.moveToA src).withUnread f sp count trace := by
  rw [State.moveToA, State.readSrc_withUnread]
  rfl

theorem State.addToA_withUnread (s : State) (f : Byte) (sp : Word) (count : Nat)
    (trace : List Snapshot) (src : Src) :
    (s.withUnread f sp count trace).addToA src =
      (s.addToA src).withUnread (Machine.updateFlags (s.a + s.readSrc src) f) sp count trace := by
  rw [State.addToA, State.readSrc_withUnread]
  rfl

/-- Agreement on all that steers execution is to differ in the four fields only. -/
theorem agreeButFlagsSpCount_iff (s t : State) :
    s.AgreeButFlagsSpCount t ↔ ∃ f sp count trace, t = s.withUnread f sp count trace := by
  constructor
  · rintro ⟨ha, hb, hc, hd, he, hh, hl, hpc, hhalted, hmem⟩
    refine ⟨t.f, t.sp, t.count, t.trace, ?_⟩
    rw [State.withUnread, ha, hb, hc, hd, he, hh, hl, hpc, hhalted, hmem]
  · rintro ⟨f, sp, count, trace, rfl⟩
    exact ⟨rfl, rfl, rfl, rfl, rfl, rfl, rfl, rfl, rfl, rfl⟩

/-- Other values in the four fields change nothing in the effect of an instruction outside them, and
F comes out the same when it went in the same. -/
theorem exec_withUnread {i : Instr} {s t : State} (ht : exec i s = .next t) (f : Byte) (sp : Word)
    (count : Nat) (trace : List Snapshot) :
    ∃ f' sp', exec i (s.withUnread f sp count trace) = .next (t.withUnread f' sp' count trace) ∧
      (f = s.f → f' = t.f) := by
  cases ExecResult.of_exec ht with
  | nothing _ h =>
    refine ⟨f, sp, ?_, id⟩
    rcases h with rfl | h
    · rfl
    · exact exec_unimplemented h _
  | move src =>
    refine ⟨f, sp, ?_, id⟩
    rw [exec_movOf, State.moveToA_withUnread]
  | loadByte r d8 =>
    refine ⟨f, sp, ?_, fun h => by rw [h, State.setReg_f]⟩
    rw [exec_mviOf]
    cases r <;> rfl
  | loadPair p d16 =>
    refine ⟨f, sp, ?_, fun h => by rw [h, State.setPair_f]⟩
    rw [exec_lxiPairOf]
    cases p <;> rfl
  | loadSp d16 => exact ⟨f, d16, rfl, id⟩
  | store a16 => exact ⟨f, sp, rfl, id⟩
  | add src =>
    refine ⟨Machine.updateFlags (s.a + s.readSrc (srcOf src)) f, sp, ?_, fun h => by
      rw [State.addToA_f, h]⟩
    rw [exec_addOf, State.addToA_withUnread]
  | addImmediate d8 => exact ⟨_, sp, rfl, fun h => by rw [State.addToA_f, h]; rfl⟩
  | halt => exact ⟨f, sp, rfl, id⟩

/-- The same of a step, halted or running. -/
theorem step_withUnread (s : State) (f : Byte) (sp : Word) (count : Nat) (trace : List Snapshot) :
    ∃ t f' sp' count' trace', step s = .next t ∧
      step (s.withUnread f sp count trace) = .next (t.withUnread f' sp' count' trace') ∧
      (f = s.f → f' = t.f) ∧ (count = s.count → count' = t.count) := by
  cases hs : s.halted with
  | true => exact ⟨s, f, sp, count, trace, step_halted hs, step_halted hs, id, id⟩
  | false =>
    obtain ⟨i, hi⟩ := s.exists_atPc
    have hi' : (s.withUnread f sp count trace).AtPc i := hi
    obtain ⟨t, ht, hst⟩ := step_of_atPc hs hi
    obtain ⟨t', ht', hst'⟩ := step_of_atPc (s := s.withUnread f sp count trace) hs hi'
    obtain ⟨f', sp', hu, hf⟩ := exec_withUnread ht f sp count trace
    obtain ⟨-, hcount, -⟩ := exec_frame ht
    obtain rfl : t' = t.withUnread f' sp' count trace :=
      Host.Outcome.next.inj (ht'.symm.trans hu)
    refine ⟨t.report i, f', sp', count + 1, _, hst, hst', hf, fun h => ?_⟩
    rw [State.report_count, hcount, State.pastBytes_count, h]

/-- Settles O41, by induction on the number of steps: `step_withUnread` is the simulation step. -/
theorem flagsSpCountAndTraceSteerNothing : Obligations.FlagsSpCountAndTraceSteerNothing := by
  intro k
  induction k with
  | zero => exact fun s t h => ⟨s, t, rfl, rfl, h⟩
  | succ k ih =>
    intro s t h
    obtain ⟨f, sp, count, trace, rfl⟩ := (agreeButFlagsSpCount_iff s t).mp h
    obtain ⟨u, f', sp', count', trace', hu, hu', -, -⟩ := step_withUnread s f sp count trace
    rw [runSteps_succ, runSteps_succ, hu, hu']
    exact ih _ _ ((agreeButFlagsSpCount_iff _ _).mpr ⟨f', sp', count', trace', rfl⟩)

end Sys2Proof.Machine
end

section
/-! PROOF. Which instruction can change which part of the state (10_state.md R11 to R21). -/

namespace Sys2Proof.Machine

/-- Settles O17: exec does not move PC, and the format of the opcode byte gives the length; the operand
bytes of the straddling `STA` are read off `State.AtPc.operands`. -/
theorem pcAdvancesByInstructionLength : Obligations.PcAdvancesByInstructionLength := by
  constructor
  · intro s i hrun hi
    obtain ⟨t, ht, hst⟩ := step_of_atPc hrun hi
    obtain ⟨hpc, -, -⟩ := exec_frame ht
    refine ⟨_, hst, ?_, ?_⟩
    · rw [State.report_pc, hpc, State.pastBytes_pc, BitVec.toNat_add, BitVec.toNat_ofNat]
      omega
    · rw [Instr.length, Laws.operands_length, hi.opcode]
  · intro s a16 hrun hs hi
    obtain ⟨t, ht, hst⟩ := step_of_atPc hrun hi
    obtain ⟨hpc, -, -⟩ := exec_frame ht
    constructor
    · have hops := hi.operands
      rw [← hi.opcode, hs] at hops
      obtain ⟨hlo, hhi⟩ : loByte a16 = s.readByte 0x0000#16 ∧ hiByte a16 = s.readByte 0x0001#16 := by
        simpa [Instr.operands, Instr.opcode, formatOfOpcode, Format.operandCount] using hops
      rw [← hlo, ← hhi, ← toNat_wordOfBytes, wordOfBytes_halves]
    · have hlen : (Instr.sta a16).length = 3 := rfl
      exact ⟨_, hst, by rw [State.report_pc, hpc, State.pastBytes_pc, hs, hlen]; rfl⟩

/-- Settles O34: B, C, D, E, H and L as halves of their pairs, and A on its own. -/
theorem generalRegistersWrittenOnlyAsR11Lists :
    Obligations.GeneralRegistersWrittenOnlyAsR11Lists := by
  intro s i hrun hi
  obtain ⟨t, ht, hst⟩ := step_of_atPc hrun hi
  exact ⟨_, hst, exec_writes_half ht .BC (r := .B) (.inl rfl),
    exec_writes_half ht .BC (r := .C) (.inr rfl), exec_writes_half ht .DE (r := .D) (.inl rfl),
    exec_writes_half ht .DE (r := .E) (.inr rfl), exec_writes_half ht .HL (r := .H) (.inl rfl),
    exec_writes_half ht .HL (r := .L) (.inr rfl), (exec_writes_a ht :)⟩

/-- Settles O35, by `exec_writes_f`. -/
theorem flagsWrittenOnlyByAddFamily : Obligations.FlagsWrittenOnlyByAddFamily := by
  intro s i hrun hi
  obtain ⟨t, ht, hst⟩ := step_of_atPc hrun hi
  refine ⟨_, hst, fun hne => ?_⟩
  obtain h | ⟨h, -⟩ := exec_writes_f ht
  · exact absurd h hne
  · exact h

/-- Settles O36: the writer by `exec_keeps_sp`, "read by none" by `step_withUnread` with F, the count
and the trace as they are. -/
theorem stackPointerIsWrittenOnlyByLxiSpAndReadByNone :
    Obligations.StackPointerIsWrittenOnlyByLxiSpAndReadByNone := by
  refine ⟨fun _ => rfl, fun s i hrun hi => ?_, fun s w _ => ?_⟩
  · obtain ⟨t, ht, hst⟩ := step_of_atPc hrun hi
    obtain ⟨-, -, htrace⟩ := exec_frame ht
    refine ⟨_, _, hst, by rw [State.report_trace, htrace, State.pastBytes_trace], rfl, ?_,
      (exec_keeps_sp ht :)⟩
    rintro d16 rfl
    cases ht
    rfl
  · obtain ⟨t, f', sp', count', trace', hst, hst', hf, hcount⟩ :=
      step_withUnread s s.f w s.count s.trace
    refine ⟨t, _, hst, hst', ?_⟩
    rw [State.withUnread, hf rfl, hcount rfl]

/-- Settles O37: `exec_keeps_mem`, and for `STA` the law of a read after a write. -/
theorem onlyStaChangesMemory : Obligations.OnlyStaChangesMemory := by
  intro s i hrun hi
  obtain ⟨t, ht, hst⟩ := step_of_atPc hrun hi
  refine ⟨_, hst, fun hne x => ?_, ?_⟩
  · rw [State.readByte_report, State.readByte, exec_keeps_mem ht hne]
    rfl
  · rintro a16 rfl x
    cases ht
    exact s.mem.read_write a16 x s.a

/-- Settles O38: a halted machine is unchanged, a running one is covered by `exec_halted_iff`. -/
theorem onlyHltHalts : Obligations.OnlyHltHalts := by
  intro s i hi
  cases hs : s.halted with
  | true => exact ⟨s, step_halted hs, by simp [hs]⟩
  | false =>
    obtain ⟨t, ht, hst⟩ := step_of_atPc hs hi
    exact ⟨_, hst, by simpa [hs] using exec_halted_iff ht⟩

end Sys2Proof.Machine
end

section
/-! PROOF. Reset (R26), the end of a run (R19), and the pairs as views of their halves (R12). -/

namespace Sys2Proof.Machine

/-- Settles O1: the registers by definition, memory by the law of `Memory.ofImage`. -/
theorem resetGivesTableOfR26 : Obligations.ResetGivesTableOfR26 := fun image =>
  ⟨rfl, rfl, rfl, rfl, rfl, rfl, rfl, rfl, rfl, rfl, rfl, rfl, State.readByte_boot image⟩

/-- Settles O16, by induction on the number of steps. -/
theorem haltedMachineKeepsItsState : Obligations.HaltedMachineKeepsItsState := by
  intro s k hs
  induction k with
  | zero => rfl
  | succ k ih =>
    rw [runSteps_succ, step_halted hs]
    exact ih

/-- A pair reads as the two bytes its halves hold (R12). -/
theorem State.toNat_getPair (s : State) (p : RegPair) :
    (s.getPair p).toNat =
      (s.getReg (RegPair.high p)).toNat * 256 + (s.getReg (RegPair.low p)).toNat :=
  toNat_wordOfBytes _ _

theorem State.getReg_high_setPair (s : State) (p : RegPair) (w : Word) :
    (s.setPair p w).getReg (RegPair.high p) = hiByte w := by
  rw [State.setPair, State.getReg_setReg_ne _ _ _ _ (RegPair.high_ne_low p),
    State.getReg_setReg_self]

theorem State.getReg_low_setPair (s : State) (p : RegPair) (w : Word) :
    (s.setPair p w).getReg (RegPair.low p) = loByte w := State.getReg_setReg_self _ _ _

/-- Settles O42: the two halves of a pair are different registers, so neither write undoes the other. -/
theorem pairIsViewOfItsHalves : Obligations.PairIsViewOfItsHalves := by
  refine ⟨fun s p hi lo => ⟨?_, ?_⟩, fun s => ⟨?_, ?_, ?_⟩, fun s p w => ⟨?_, ?_, ?_⟩⟩
  · rw [State.toNat_getPair, State.getReg_setReg_ne _ _ _ _ (RegPair.high_ne_low p),
      State.getReg_setReg_self, State.getReg_setReg_self]
  · rw [State.toNat_getPair, State.getReg_setReg_self,
      State.getReg_setReg_ne _ _ _ _ (RegPair.high_ne_low p).symm, State.getReg_setReg_self]
  · exact s.toNat_getPair .BC
  · exact s.toNat_getPair .DE
  · exact s.toNat_getPair .HL
  · rw [State.getPair, State.getReg_high_setPair, State.getReg_low_setPair, wordOfBytes_halves]
  · rw [State.getReg_high_setPair, toNat_hiByte]
  · rw [State.getReg_low_setPair, toNat_loByte]

end Sys2Proof.Machine
end

section
/-! PROOF. Memory (20_memory.md): the canonical form is determined by the reads, and what a step writes the
next step sees. -/

namespace Sys2Proof.Machine

/-- When the addresses rise, the listed cells are what `Memory.lookup` finds, but for
the unlisted value. -/
theorem Memory.mem_iff_lookup_eq {m : Memory} (hm : m.Pairwise (fun x y => x.1 < y.1)) {n : Nat}
    {v : Byte} (hv : v ≠ Memory.unlisted) : (n, v) ∈ m ↔ m.lookup n = v := by
  induction m with
  | nil => simpa using hv.symm
  | cons cell rest ih =>
    obtain ⟨k, w⟩ := cell
    obtain ⟨hk, hrest⟩ := List.pairwise_cons.mp hm
    by_cases hkn : k = n
    · subst hkn
      have habsent : (k, v) ∉ rest := fun h => lt_irrefl k (hk (k, v) h)
      simp [Memory.lookup, habsent, eq_comm]
    · simp [Memory.lookup, hkn, Ne.symm hkn, ih hrest]

/-- The cells of a canonical memory are the addresses below 65536 that do not read as an unlisted cell,
each with what it reads as (R30, R31). -/
theorem Memory.mem_iff_read_eq {m : Memory} (hm : m.wf) (cell : Host.Cell) :
    cell ∈ m ↔ cell.1 < Config.memorySize ∧ cell.2 ≠ Memory.unlisted ∧
      m.read (BitVec.ofNat 16 cell.1) = cell.2 := by
  obtain ⟨n, v⟩ := cell
  obtain ⟨hrising, hcells⟩ := hm
  have hread (hn : n < Config.memorySize) : m.read (BitVec.ofNat 16 n) = m.lookup n := by
    rw [Memory.read, BitVec.toNat_ofNat, Nat.mod_eq_of_lt (show n < 2 ^ 16 from hn)]
  constructor
  · intro h
    obtain ⟨hn, hv⟩ := hcells _ h
    exact ⟨hn, hv, (hread hn).trans ((Memory.mem_iff_lookup_eq hrising hv).mp h)⟩
  · rintro ⟨hn, hv, h⟩
    exact (Memory.mem_iff_lookup_eq hrising hv).mpr ((hread hn).symm.trans h)

/-- Settles O43: the reads say which cells are listed, and rising addresses fix their order. -/
theorem canonicalMemoriesThatReadAlikeAreEqual :
    Obligations.CanonicalMemoriesThatReadAlikeAreEqual := by
  intro m n hm hn hread
  refine List.Pairwise.eq_of_mem_iff (r := Prod.fst ⁻¹'o (· < ·)) hm.1 hn.1 fun cell => ?_
  rw [Memory.mem_iff_read_eq hm, Memory.mem_iff_read_eq hn, hread]

/-- A running machine with `i` at PC goes on with whatever executing `i` past its bytes gives. -/
theorem step_eq_of_exec {s u : State} {i : Instr} (hrun : s.halted = false) (hi : s.AtPc i)
    (hu : exec i (s.pastBytes i.length) = .next u) : step s = .next (u.report i) := by
  obtain ⟨t, ht, hst⟩ := step_of_atPc hrun hi
  obtain rfl : t = u := Host.Outcome.next.inj (ht.symm.trans hu)
  exact hst

/-- Settles O44: the store is a write at the PC of the next step, whose fetch reads it back. -/
theorem storedByteIsFetchedByNextStep : Obligations.StoredByteIsFetchedByNextStep := by
  intro s a16 hrun hi ha
  obtain ⟨t, hst, hpc, hbyte⟩ : ∃ t, step s = .next t ∧ t.pc = a16 ∧ t.readByte a16 = s.a :=
    ⟨_, step_eq_of_exec hrun hi rfl, ha.symm, s.mem.read_write_self a16 s.a⟩
  refine ⟨t, hst, hpc, ?_, fun i hnext => ?_⟩
  · rw [hpc, hbyte]
  · rw [hnext.opcode, hpc, hbyte]

/-- `M` is the byte at `H*256 + L` (R42). -/
theorem State.readSrc_mem_eq (s : State) :
    s.readSrc .mem = s.readByte (BitVec.ofNat 16 (s.h.toNat * 256 + s.l.toNat)) :=
  congrArg s.readByte (wordOfBytes_eq_ofNat s.h s.l)

/-- Settles O45: the second step reads memory, which the first left alone, at the L it wrote. -/
theorem movAMemorySeesNewL : Obligations.MovAMemorySeesNewL := by
  intro s low hrun hi
  refine ⟨_, step_eq_of_exec hrun hi rfl, fun hmov =>
    ⟨_, step_eq_of_exec (by simpa using hrun) hmov rfl, ?_⟩⟩
  rw [State.report_a, State.moveToA_a, State.readSrc_mem_eq, State.readByte_pastBytes,
    State.readByte_report, State.readByte_setReg, State.readByte_pastBytes]
  rfl

end Sys2Proof.Machine
end

section
/-! PROOF. The decoder and the encoder (30_encoding.md R50 to R59): an instruction is its opcode byte and
its operand bytes, and a byte list decodes exactly when it begins with the encoding of an instruction. -/

namespace Sys2Proof

/-! ### An instruction is its bytes -/

/-- The opcode map inverts the encoder: the one case split over the constructors of `Instr`. -/
theorem instrOfBytes_opcode_operands (i : Instr) :
    instrOfBytes i.opcode (i.operands.getD 0 0x00#8) (i.operands.getD 1 0x00#8) = i := by
  cases i with
  | lxiB d16 | lxiD d16 | lxiH d16 | lxiSP d16 | sta d16 =>
    simp only [Instr.opcode, Instr.operands]
    exact congrArg _ (wordOfBytes_halves d16)
  | _ =>
    simp only [Instr.opcode, Instr.operands]
    rfl

/-- No two instructions have the same bytes. -/
theorem Instr.eq_of_opcode_of_operands {i j : Instr} (hop : i.opcode = j.opcode)
    (hoperands : i.operands = j.operands) : i = j := by
  rw [← instrOfBytes_opcode_operands i, hop, hoperands, instrOfBytes_opcode_operands]

/-- What the opcode map gives: the instruction with that opcode byte whose operand bytes are the first of
the two that follow. -/
theorem instrOfBytes_eq_iff (op b1 b2 : Byte) (i : Instr) :
    instrOfBytes op b1 b2 = i ↔ i.opcode = op ∧ i.operands <+: [b1, b2] := by
  constructor
  · rintro rfl
    rw [opcode_instrOfBytes, operands_instrOfBytes]
    exact ⟨rfl, List.take_prefix _ _⟩
  · rintro ⟨rfl, hprefix⟩
    refine Instr.eq_of_opcode_of_operands (opcode_instrOfBytes _ _ _) ?_
    rw [operands_instrOfBytes, ← Laws.operands_length, ← List.prefix_iff_eq_take.mp hprefix]

/-- An opcode byte of format F0 ignores both bytes after it, one of F1 the second (R55). -/
theorem instrOfBytes_congr {op b1 b2 c1 c2 : Byte}
    (h : [b1, b2].take (formatOfOpcode op).operandCount =
      [c1, c2].take (formatOfOpcode op).operandCount) :
    instrOfBytes op b1 b2 = instrOfBytes op c1 c2 := by
  refine Instr.eq_of_opcode_of_operands ?_ ?_
  · rw [opcode_instrOfBytes, opcode_instrOfBytes]
  · rw [operands_instrOfBytes, operands_instrOfBytes, h]

/-! ### What the decoder answers -/

/-- The decoder on a list with an opcode byte: it needs the operand bytes of the format and leaves the
bytes after them. -/
theorem decode_cons (op : Byte) (tail : List Byte) :
    decode (op :: tail) =
      if tail.length < (formatOfOpcode op).operandCount then .error (.missingOperand op)
      else .ok (instrOfBytes op (tail.getD 0 0x00#8) (tail.getD 1 0x00#8),
        tail.drop (formatOfOpcode op).operandCount) := by
  cases hf : formatOfOpcode op with
  | F0 =>
    have hcongr := instrOfBytes_congr (op := op) (b1 := 0x00#8) (b2 := 0x00#8)
      (c1 := tail.getD 0 0x00#8) (c2 := tail.getD 1 0x00#8) (by rw [hf]; rfl)
    simp only [decode, hf, hcongr]
    simp [Format.operandCount]
  | F1 =>
    rcases tail with _ | ⟨b1, rest⟩
    · simp [decode, hf, Format.operandCount]
    · have hcongr := instrOfBytes_congr (op := op) (b1 := b1) (b2 := 0x00#8)
        (c1 := b1) (c2 := (b1 :: rest).getD 1 0x00#8) (by rw [hf]; rfl)
      simp only [decode, hf, hcongr]
      simp [Format.operandCount]
  | F2 => rcases tail with _ | ⟨b1, _ | ⟨b2, rest⟩⟩ <;> simp [decode, hf, Format.operandCount]

/-- The first bytes of a list, read one by one. -/
theorem take_getD_eq_take {n : Nat} {l : List Byte} (hn : n ≤ 2) (hl : n ≤ l.length) :
    [l.getD 0 0x00#8, l.getD 1 0x00#8].take n = l.take n := by
  interval_cases n
  · rfl
  · obtain ⟨b1, rest, rfl⟩ := List.exists_cons_of_length_pos hl
    rfl
  · obtain ⟨b1, rest, rfl⟩ := List.exists_cons_of_length_pos (by omega : 0 < l.length)
    obtain ⟨b2, rest, rfl⟩ := List.exists_cons_of_length_pos (Nat.le_of_succ_le_succ hl)
    rfl

theorem Format.operandCount_le_two (f : Format) : f.operandCount ≤ 2 := by cases f <;> decide

/-- A byte list decodes to `i` with `rest` left over exactly when it is the encoding of `i` and `rest`. -/
theorem decode_eq_ok_iff (bytes rest : List Byte) (i : Instr) :
    decode bytes = .ok (i, rest) ↔ encode i ++ rest = bytes := by
  rcases bytes with _ | ⟨op, tail⟩
  · simp [decode, encode]
  have hle := (formatOfOpcode op).operandCount_le_two
  rw [decode_cons, encode, List.cons_append]
  constructor
  · intro h
    split at h
    · cases h
    next hlong =>
      obtain ⟨rfl, rfl⟩ := Prod.mk.inj (Except.ok.inj h)
      rw [opcode_instrOfBytes, operands_instrOfBytes, take_getD_eq_take hle (by omega),
        List.take_append_drop]
  · intro h
    obtain ⟨rfl, rfl⟩ := List.cons.inj h
    have hlen := Laws.operands_length i
    have hprefix : i.operands <+: [(i.operands ++ rest).getD 0 0x00#8,
        (i.operands ++ rest).getD 1 0x00#8] := by
      rw [List.prefix_iff_eq_take, take_getD_eq_take (by omega) (by simp), List.take_left]
    have hinstr := (instrOfBytes_eq_iff ..).mpr ⟨rfl, hprefix⟩
    rw [if_neg (by simp [hlen]), hinstr, ← hlen, List.drop_left]

/-- Settles O6, the direction from right to left of `decode_eq_ok_iff`. -/
theorem decodeOfEncodeGivesInstrBack : Obligations.DecodeOfEncodeGivesInstrBack :=
  fun i rest => (decode_eq_ok_iff _ rest i).mpr rfl

/-- Settles O7, the direction from left to right of `decode_eq_ok_iff`. -/
theorem encodeOfDecodedBytesGivesBytesBack : Obligations.EncodeOfDecodedBytesGivesBytesBack :=
  fun bytes rest i => (decode_eq_ok_iff bytes rest i).mp

/-- The operand counts of R50 and R55, opcode byte by opcode byte. -/
theorem operandCount_formatOfOpcode (op : Byte) :
    (formatOfOpcode op).operandCount =
      if op ∈ [0x01#8, 0x11#8, 0x21#8, 0x31#8, 0x32#8] then 2
      else if op ∈ [0x06#8, 0x0E#8, 0x16#8, 0x1E#8, 0x26#8, 0x2E#8, 0x3E#8, 0xC6#8] then 1
      else 0 := by
  revert op
  decide +kernel

/-- Settles O8: by `decode_cons` the only rejection of a list with an opcode byte is for want of operand
bytes. -/
theorem decodeRejectsExactlyShortLists : Obligations.DecodeRejectsExactlyShortLists := by
  constructor
  · rintro (_ | ⟨op, tail⟩)
    · simp [decode]
    · rw [decode_cons]
      split <;> simp
  · rintro (_ | ⟨op', tail⟩) op
    · simp [decode]
    · simp only [← operandCount_formatOfOpcode, decode_cons]
      constructor
      · intro h
        split at h
        next hshort =>
          cases h
          exact ⟨tail, rfl, hshort⟩
        · cases h
      · rintro ⟨rest, heq, hshort⟩
        obtain ⟨rfl, rfl⟩ := List.cons.inj heq
        rw [if_pos hshort]

end Sys2Proof
end

section
/-! PROOF. The opcode map (30_encoding.md R51 to R58): the 31 opcode bytes of R54, the others, and the
agreement with the bit fields. -/

namespace Sys2Proof

open Machine

/-! ### Which opcode bytes are unimplemented (R57) -/

/-- The class of an instruction is that of its opcode byte. -/
theorem Instr.isUnimplemented_iff (i : Instr) :
    i.isUnimplemented = true ↔ i.opcode ∉ implementedOpcodes := by
  have h : i.isUnimplemented = !decide (i.opcode ∈ implementedOpcodes) := by cases i <;> rfl
  simp [h]

/-- Outside the 31 opcode bytes of R54 no operand byte follows. -/
theorem formatOfOpcode_of_not_mem (op : Byte) (h : op ∉ implementedOpcodes) :
    formatOfOpcode op = .F0 := by
  revert op
  decide +kernel

theorem reportOf_of_opcode_not_mem {i : Instr} (h : i.opcode ∉ implementedOpcodes) :
    reportOf i = .unimplemented i.opcode := by
  rw [reportOf, if_pos (i.isUnimplemented_iff.mpr h)]

theorem reportOf_of_opcode_mem {i : Instr} (h : i.opcode ∈ implementedOpcodes) :
    reportOf i = .executed i := by
  rw [reportOf, if_neg fun hu => i.isUnimplemented_iff.mp hu h]

theorem reportOf_instrOfBytes_of_not_mem {op : Byte} (h : op ∉ implementedOpcodes) (b1 b2 : Byte) :
    reportOf (instrOfBytes op b1 b2) = .unimplemented op := by
  have hop := opcode_instrOfBytes op b1 b2
  rw [reportOf_of_opcode_not_mem (hop.symm ▸ h), hop]

/-- Settles O10: the report and the length are decided by the opcode byte, which the map keeps. -/
theorem bytesOutsideR54AreUnimplemented : Obligations.BytesOutsideR54AreUnimplemented := by
  refine ⟨fun op b1 b2 h => ⟨?_, reportOf_instrOfBytes_of_not_mem h b1 b2⟩, fun op b1 b2 h => ?_, ?_⟩
  · rw [length_instrOfBytes, formatOfOpcode_of_not_mem op h]
    rfl
  · exact reportOf_of_opcode_mem (by rwa [opcode_instrOfBytes])
  · decide +kernel

/-! ### The bit fields of the opcode byte (R51 to R53) -/

theorem opcode_movOf_regOfCode (sss : BitVec 3) :
    (movOf (regOfCode sss)).opcode = 0b01111#5 ++ sss := by
  revert sss
  decide

theorem opcode_addOf_regOfCode (sss : BitVec 3) :
    (addOf (regOfCode sss)).opcode = 0b10000#5 ++ sss := by
  revert sss
  decide

theorem opcode_mviOf_of_regOfCode {ddd : BitVec 3} {r : Reg8} (h : regOfCode ddd = some r)
    (d8 : Byte) : (mviOf r d8).opcode = 0b00#2 ++ ddd ++ 0b110#3 := by
  have hzero : ∀ ddd : BitVec 3, ∀ r ∈ regOfCode ddd,
      (mviOf r 0x00#8).opcode = 0b00#2 ++ ddd ++ 0b110#3 := by decide
  rw [← hzero ddd r h]
  cases r <;> rfl

theorem opcode_lxiOf (rp : BitVec 2) (d16 : Word) :
    (lxiOf rp d16).opcode = 0b00#2 ++ rp ++ 0b0001#4 := by
  have hzero : ∀ rp : BitVec 2, (lxiOf rp 0x0000#16).opcode = 0b00#2 ++ rp ++ 0b0001#4 := by decide
  rw [← hzero rp]
  unfold lxiOf
  split_ifs <;> rfl

theorem operands_movOf (src : Option Reg8) : (movOf src).operands = [] := by
  rcases src with _ | r
  · rfl
  · cases r <;> rfl

theorem operands_addOf (src : Option Reg8) : (addOf src).operands = [] := by
  rcases src with _ | r
  · rfl
  · cases r <;> rfl

theorem operands_mviOf (r : Reg8) (d8 : Byte) : (mviOf r d8).operands = [d8] := by cases r <;> rfl

theorem operands_lxiOf (rp : BitVec 2) (d16 : Word) :
    (lxiOf rp d16).operands = [loByte d16, hiByte d16] := by
  unfold lxiOf
  split_ifs <;> rfl

/-- The fields of an opcode byte: `ooooosss`, `oodddooo` and `oorpoooo` (R51). -/
theorem fields_append (op : Byte) :
    op.extractLsb' 3 5 ++ op.extractLsb' 0 3 = op ∧
      op.extractLsb' 6 2 ++ op.extractLsb' 3 3 ++ op.extractLsb' 0 3 = op ∧
      op.extractLsb' 6 2 ++ op.extractLsb' 4 2 ++ op.extractLsb' 0 4 = op := by
  revert op
  decide +kernel

/-- An instruction that the bit fields give has the opcode byte it was decoded from, and its operand
bytes are the first of those that follow. -/
theorem bytes_of_decodeByFields {op b1 b2 : Byte} {i : Instr}
    (h : decodeByFields op b1 b2 = some i) : i.opcode = op ∧ i.operands <+: [b1, b2] := by
  obtain ⟨hsss, hddd, hrp⟩ := fields_append op
  simp only [decodeByFields, ← wordOfBytes_eq_ofNat] at h
  split at h
  next hnop => cases h; exact ⟨hnop.symm, List.nil_prefix⟩
  split at h
  next hhlt => cases h; exact ⟨hhlt.symm, List.nil_prefix⟩
  split at h
  next hsta => cases h; exact ⟨hsta.symm, by simp [Instr.operands]⟩
  split at h
  next hadi => cases h; exact ⟨hadi.symm, by simp [Instr.operands]⟩
  split at h
  next hmov =>
    cases h
    rw [opcode_movOf_regOfCode, ← hmov, operands_movOf]
    exact ⟨hsss, List.nil_prefix⟩
  split at h
  next hadd =>
    cases h
    rw [opcode_addOf_regOfCode, ← hadd, operands_addOf]
    exact ⟨hsss, List.nil_prefix⟩
  split at h
  next hmvi =>
    obtain ⟨htop, hlow⟩ := hmvi
    obtain ⟨r, hr, rfl⟩ := Option.map_eq_some_iff.mp h
    rw [opcode_mviOf_of_regOfCode hr, ← htop, ← hlow, operands_mviOf]
    exact ⟨hddd, by simp⟩
  split at h
  next hlxi =>
    obtain ⟨htop, hlow⟩ := hlxi
    cases h
    rw [opcode_lxiOf, ← htop, ← hlow, operands_lxiOf]
    exact ⟨hrp, by simp⟩
  cases h

/-- The bit fields give an instruction on each of the 31 opcode bytes of R54. -/
theorem isSome_decodeByFields {op : Byte} (h : op ∈ implementedOpcodes) (b1 b2 : Byte) :
    (decodeByFields op b1 b2).isSome = true := by
  have hall : (implementedOpcodes.all fun op => (decodeByFields op b1 b2).isSome) = true := rfl
  exact List.all_eq_true.mp hall op h

/-- Settles O11: where the bit fields give an instruction, its bytes determine what the map gives; where
they give none, the byte is none of the 31. -/
theorem opcodeMapAgreesWithBitFields : Obligations.OpcodeMapAgreesWithBitFields := by
  intro op b1 b2
  cases h : decodeByFields op b1 b2 with
  | some i => exact (instrOfBytes_eq_iff op b1 b2 i).mpr (bytes_of_decodeByFields h)
  | none =>
    refine reportOf_instrOfBytes_of_not_mem (fun hmem => ?_) b1 b2
    simpa [h] using isSome_decodeByFields hmem b1 b2

/-! ### The map, byte by byte (R54) -/

/-- Settles O9: each row of the map at the digits of the byte, the words by the law of byte order. -/
theorem opcodeMapOfR54 : Obligations.OpcodeMapOfR54 := by
  intro b1 b2
  simp only [← wordOfBytes_eq_ofNat]
  exact ⟨rfl, rfl, rfl, rfl, rfl, rfl, rfl, rfl, rfl, rfl, rfl, rfl, rfl, rfl, rfl, rfl, rfl, rfl, rfl,
    rfl, rfl, rfl, rfl, rfl, rfl, rfl, rfl, rfl, rfl, rfl, rfl⟩

/-- Settles O12, by running the decoder on the words. -/
theorem sampleWordsDecode : Obligations.SampleWordsDecode :=
  ⟨rfl, rfl, rfl, rfl, rfl, rfl, rfl, rfl, rfl, rfl, rfl, rfl, rfl⟩

end Sys2Proof
end

section
/-! PROOF. A table word placed at PC (log 3): the three bytes that were placed are the three that stand
there. -/

namespace Sys2Proof.Machine

/-- Three bytes placed at PC are the bytes at PC: their addresses differ, also where they wrap (R30). -/
theorem State.bytesAtPc_load (s : State) (b0 b1 b2 : Byte) (halted : Bool) :
    State.bytesAtPc { s with mem := s.mem.load s.pc [b0, b1, b2], halted := halted } =
      [b0, b1, b2] := by
  have h01 : s.pc ≠ s.pc + 1#16 := by bv_omega
  have h02 : s.pc ≠ s.pc + 2#16 := by bv_omega
  have h12 : s.pc + 1#16 ≠ s.pc + 2#16 := by bv_omega
  have hadd : s.pc + 1#16 + 1#16 = s.pc + 2#16 := by rw [BitVec.add_assoc]; rfl
  simp [State.bytesAtPc, State.readByte, Memory.load, Memory.read_write, hadd, h01, h02, h12]

/-- The bytes at PC after a table word was placed are the bytes of the word. -/
theorem State.bytesAtPc_withFetchWord (s : State) (nbits w : Nat) :
    (s.withFetchWord nbits w).bytesAtPc = tableWordBytes nbits w :=
  s.bytesAtPc_load _ _ _ false

theorem decode_of_decodeTableWord {nbits w : Nat} {i : Instr} (h : decodeTableWord nbits w = some i) :
    ∃ rest, decode (tableWordBytes nbits w) = .ok (i, rest) := by
  unfold decodeTableWord at h
  split at h
  next j rest hdecode =>
    cases h
    exact ⟨rest, hdecode⟩
  · cases h

/-- Settles O18, by `State.bytesAtPc_withFetchWord`. -/
theorem tableWordIsFetchedNext : Obligations.TableWordIsFetchedNext := by
  intro s nbits w i h
  refine ⟨?_, rfl, _, rfl⟩
  rw [State.AtPc, s.bytesAtPc_withFetchWord]
  exact decode_of_decodeTableWord h

end Sys2Proof.Machine
end

section
/-! PROOF. The data transfer instructions (40_data_transfer.md R70 to R75): each completes with the effect
of its kind, and leaves the rest of the state alone. -/

namespace Sys2Proof.Machine

/-! ### Running as an effect -/

/-- The step part of `RunsAs` follows from the exec part and the length. -/
theorem RunsAs.of_exec {i : Instr} {n : Nat} {effect : State → State} (hlen : i.length = n)
    (hexec : ∀ s : State, exec i s = .next (effect s)) : RunsAs i n effect := by
  subst hlen
  exact ⟨hexec, fun s hrun hi => step_eq_of_exec hrun hi (hexec _)⟩

theorem runsAs_movOf (src : Option Reg8) :
    RunsAs (movOf src) 1 (fun s => s.moveToA (srcOf src)) :=
  .of_exec (by rw [Instr.length, operands_movOf]; rfl) (exec_movOf src)

theorem runsAs_mviOf (r : Reg8) (d8 : Byte) :
    RunsAs (mviOf r d8) 2 (fun s => s.setReg r d8) :=
  .of_exec (by rw [Instr.length, operands_mviOf]; rfl) (exec_mviOf r d8)

theorem operands_lxiPairOf (p : RegPair) (d16 : Word) :
    (lxiPairOf p d16).operands = [loByte d16, hiByte d16] := by cases p <;> rfl

/-- The halves of the word go to the halves of the pair (R73). -/
theorem State.setPair_wordOfBytes (s : State) (p : RegPair) (hi lo : Byte) :
    s.setPair p (wordOfBytes hi lo) = (s.setReg (RegPair.high p) hi).setReg (RegPair.low p) lo := by
  rw [State.setPair, hiByte_wordOfBytes, loByte_wordOfBytes]

theorem runsAs_lxiPairOf (p : RegPair) (hi lo : Byte) :
    RunsAs (lxiPairOf p (wordOfBytes hi lo)) 3
      (fun s => (s.setReg (RegPair.high p) hi).setReg (RegPair.low p) lo) :=
  .of_exec (by rw [Instr.length, operands_lxiPairOf]; rfl) fun s => by
    rw [exec_lxiPairOf, State.setPair_wordOfBytes]

/-- The operand bytes of the instruction at PC are the first of the two bytes after the opcode byte. -/
theorem State.AtPc.operands_prefix {s : State} {i : Instr} (hi : s.AtPc i) :
    i.operands <+: [s.readByte (s.pc + 1#16), s.readByte (s.pc + 2#16)] := by
  rw [hi.operands]
  exact List.take_prefix _ _

/-- The word of an `LXI` at PC has the byte at PC+1 for its low half, the one at PC+2 for its high. -/
theorem State.AtPc.lxiPairOf_word {s : State} {p : RegPair} {d16 : Word}
    (hi : s.AtPc (lxiPairOf p d16)) :
    d16 = wordOfBytes (s.readByte (s.pc + 2#16)) (s.readByte (s.pc + 1#16)) := by
  have hprefix := hi.operands_prefix
  rw [operands_lxiPairOf] at hprefix
  obtain ⟨hlo, hhi⟩ :
      loByte d16 = s.readByte (s.pc + 1#16) ∧ hiByte d16 = s.readByte (s.pc + 2#16) := by
    simpa using hprefix
  rw [← hlo, ← hhi, wordOfBytes_halves]

/-- A step with an `LXI` at PC puts the byte at PC+1 in the low register of the pair and the one at PC+2
in the high register (R73). -/
theorem step_lxiPairOf {s : State} {p : RegPair} {d16 : Word} (hrun : s.halted = false)
    (hi : s.AtPc (lxiPairOf p d16)) :
    step s = .next ((((s.pastBytes 3).setReg (RegPair.high p) (s.readByte (s.pc + 2#16))).setReg
      (RegPair.low p) (s.readByte (s.pc + 1#16))).report (lxiPairOf p d16)) := by
  obtain rfl := hi.lxiPairOf_word
  obtain ⟨-, hstep⟩ := runsAs_lxiPairOf p (s.readByte (s.pc + 2#16)) (s.readByte (s.pc + 1#16))
  exact hstep s hrun hi

/-- Settles O19: the seven register sources of `runsAs_movOf`. -/
theorem movARegisterCopiesSource : Obligations.MovARegisterCopiesSource :=
  ⟨runsAs_movOf (some .B), runsAs_movOf (some .C), runsAs_movOf (some .D), runsAs_movOf (some .E),
    runsAs_movOf (some .H), runsAs_movOf (some .L), runsAs_movOf (some .A)⟩

/-- Settles O20: `runsAs_movOf` at the source `M`, which is the byte at H*256+L. -/
theorem movAMemoryCopiesByteAtHL : Obligations.MovAMemoryCopiesByteAtHL := by
  have heffect (s : State) : s.moveToA .mem = { s with a := s.readByte s.addressHL } :=
    congrArg (s.setReg .A) s.readSrc_mem_eq
  rw [Obligations.MovAMemoryCopiesByteAtHL, ← funext heffect]
  exact runsAs_movOf none

/-- Settles O21: the seven destinations of `runsAs_mviOf`. -/
theorem mviLoadsOperandByte : Obligations.MviLoadsOperandByte := fun d8 =>
  ⟨runsAs_mviOf .B d8, runsAs_mviOf .C d8, runsAs_mviOf .D d8, runsAs_mviOf .E d8,
    runsAs_mviOf .H d8, runsAs_mviOf .L d8, runsAs_mviOf .A d8⟩

/-- Settles O22: the three pairs of `runsAs_lxiPairOf` and of `step_lxiPairOf`. -/
theorem lxiPairLoadsBothHalves : Obligations.LxiPairLoadsBothHalves := by
  constructor
  · intro lo hi d16 hd
    obtain rfl : d16 = wordOfBytes hi lo :=
      BitVec.eq_of_toNat_eq (hd.trans (toNat_wordOfBytes hi lo).symm)
    exact ⟨runsAs_lxiPairOf .BC hi lo, runsAs_lxiPairOf .DE hi lo, runsAs_lxiPairOf .HL hi lo⟩
  · intro s d16 hrun
    exact ⟨step_lxiPairOf (p := .BC) hrun, step_lxiPairOf (p := .DE) hrun,
      step_lxiPairOf (p := .HL) hrun⟩

/-- Settles O23: exec of `LXI SP` is the write of SP. -/
theorem lxiSpLoadsStackPointer : Obligations.LxiSpLoadsStackPointer := fun _ =>
  .of_exec rfl fun _ => rfl

/-- Settles O24: the memory is that after the write, read by the law of a read after a write. -/
theorem staStoresAccumulatorAtOperandAddress :
    Obligations.StaStoresAccumulatorAtOperandAddress := fun a16 =>
  ⟨fun s => ⟨s.mem.write a16 s.a, rfl, fun x => s.mem.read_write a16 x s.a⟩,
    fun s hrun hi =>
      ⟨s.mem.write a16 s.a, step_eq_of_exec hrun hi rfl, fun x => s.mem.read_write a16 x s.a⟩⟩

/-! ### Frames -/

/-- The frame that the moves and the loads of general registers have: all but the registers listed. -/
def State.ChangesOnly (s t : State) (changed : List Reg8) : Prop :=
  s.KeepsRegistersBut t changed ∧ s.KeepsFlags t ∧ s.KeepsPc t ∧ s.KeepsSp t ∧ s.KeepsHalted t ∧
    s.KeepsCountAndTrace t ∧ s.KeepsMemory t

theorem State.changesOnly_setReg (s : State) (r : Reg8) (v : Byte) :
    s.ChangesOnly (s.setReg r v) [r] :=
  ⟨fun r' hr' => s.getReg_setReg_ne r r' v (List.ne_of_not_mem_cons hr'), s.setReg_f r v,
    s.setReg_pc r v, s.setReg_sp r v, s.setReg_halted r v, ⟨s.setReg_count r v, s.setReg_trace r v⟩,
    s.readByte_setReg r v⟩

@[simp] theorem State.readByte_setPair (s : State) (p : RegPair) (w : Word) (x : Addr) :
    (s.setPair p w).readByte x = s.readByte x := by
  rw [State.readByte, State.setPair_mem, State.readByte]

theorem State.changesOnly_setPair (s : State) (p : RegPair) (w : Word) :
    s.ChangesOnly (s.setPair p w) [RegPair.high p, RegPair.low p] := by
  refine ⟨fun r hr => ?_, s.setPair_f p w, s.setPair_pc p w, s.setPair_sp p w, s.setPair_halted p w,
    ⟨s.setPair_count p w, s.setPair_trace p w⟩, s.readByte_setPair p w⟩
  obtain ⟨hhigh, hlow⟩ : r ≠ RegPair.high p ∧ r ≠ RegPair.low p := by simpa using hr
  exact s.getReg_setPair_ne r p w hhigh hlow

@[simp] theorem State.getReg_setSp (s : State) (w : Word) (r : Reg8) :
    (s.setSp w).getReg r = s.getReg r := by cases r <;> rfl

@[simp] theorem State.getReg_writeByte (s : State) (a : Addr) (v : Byte) (r : Reg8) :
    (s.writeByte a v).getReg r = s.getReg r := by cases r <;> rfl

/-- Settles O46: each form is a `movOf`, whose effect is a write of A. -/
theorem movChangesOnlyA : Obligations.MovChangesOnlyA := by
  intro i hi s t ht
  obtain ⟨src, -, rfl⟩ :
      ∃ src ∈ [some .B, some .C, some .D, some .E, some .H, some .L, some .A, none],
        movOf src = i := List.mem_map.mp hi
  obtain rfl := Host.Outcome.next.inj ((exec_movOf src s).symm.trans ht)
  exact s.changesOnly_setReg .A _

/-- Settles O47: each form is a `mviOf`, whose effect is a write of its register. -/
theorem mviChangesOnlyItsRegister : Obligations.MviChangesOnlyItsRegister := by
  intro d8 form hform s t ht
  obtain ⟨r, -, rfl⟩ : ∃ r ∈ [.B, .C, .D, .E, .H, .L, .A], (mviOf r d8, r) = form :=
    List.mem_map.mp hform
  obtain rfl := Host.Outcome.next.inj ((exec_mviOf r d8 s).symm.trans ht)
  exact s.changesOnly_setReg r d8

/-- Settles O48: each form is an `lxiPairOf`, whose effect is a write of its pair. -/
theorem lxiChangesOnlyItsPair : Obligations.LxiChangesOnlyItsPair := by
  intro d16 form hform s t ht
  obtain ⟨p, -, rfl⟩ : ∃ p ∈ [.BC, .DE, .HL],
      (lxiPairOf p d16, [RegPair.high p, RegPair.low p]) = form := List.mem_map.mp hform
  obtain rfl := Host.Outcome.next.inj ((exec_lxiPairOf p d16 s).symm.trans ht)
  exact s.changesOnly_setPair p d16

/-- Settles O49: the effect is a write of SP. -/
theorem lxiSpChangesOnlySp : Obligations.LxiSpChangesOnlySp := by
  intro d16 s t ht
  obtain rfl : s.setSp d16 = t := Host.Outcome.next.inj ht
  exact ⟨fun r _ => s.getReg_setSp d16 r, s.setSp_f d16, s.setSp_pc d16, s.setSp_halted d16,
    ⟨s.setSp_count d16, s.setSp_trace d16⟩, fun _ => rfl⟩

/-- Settles O51: the effect is a write of one byte, which no other address reads. -/
theorem staChangesOnlyItsByte : Obligations.StaChangesOnlyItsByte := by
  intro a16 s t ht
  obtain rfl : s.writeByte a16 s.a = t := Host.Outcome.next.inj ht
  exact ⟨fun r _ => s.getReg_writeByte a16 s.a r, s.writeByte_f s.a a16, s.writeByte_pc s.a a16,
    s.writeByte_sp s.a a16, s.writeByte_halted s.a a16,
    ⟨s.writeByte_count s.a a16, s.writeByte_trace s.a a16⟩, fun x hx => s.mem.read_write_ne s.a hx⟩

end Sys2Proof.Machine
end

section
/-! PROOF. The adds and the flags (41_arithmetic.md R80 to R86): UpdateFlags bit by bit and as a byte, the
sum of the model and that of the spec, and what the add family leaves alone. -/

namespace Sys2Proof.Machine

/-! ### UpdateFlags -/

@[simp] theorem getLsbD_flagBit (mask : Byte) (set : Bool) (n : Nat) :
    (flagBit mask set).getLsbD n = (set && mask.getLsbD n) := by cases set <;> simp [flagBit]

/-- Each bit of F after UpdateFlags: kept from before, or that of one of the three masks (R80). -/
theorem getLsbD_updateFlags (v f : Byte) (n : Nat) :
    (updateFlags v f).getLsbD n =
      (f.getLsbD n && keptMask.getLsbD n || signOf v && signMask.getLsbD n ||
        zeroOf v && zeroMask.getLsbD n || parityOf v && parityMask.getLsbD n) := by
  simp [updateFlags]

theorem getLsbD_updateFlags_sign (v f : Byte) : (updateFlags v f).getLsbD 7 = signOf v := by
  rw [getLsbD_updateFlags]
  simp [keptMask, signMask, zeroMask, parityMask]

theorem getLsbD_updateFlags_zero (v f : Byte) : (updateFlags v f).getLsbD 6 = zeroOf v := by
  rw [getLsbD_updateFlags]
  simp [keptMask, signMask, zeroMask, parityMask]

theorem getLsbD_updateFlags_parity (v f : Byte) : (updateFlags v f).getLsbD 2 = parityOf v := by
  rw [getLsbD_updateFlags]
  simp [keptMask, signMask, zeroMask, parityMask]

/-- The bits that UpdateFlags keeps are those of no flag's mask (R80; decisions D5, D6). -/
theorem getLsbD_updateFlags_kept (v f : Byte) :
    ∀ n ∈ [5, 4, 3, 1, 0], (updateFlags v f).getLsbD n = f.getLsbD n := by
  intro n hn
  have hmasks : ∀ n ∈ [5, 4, 3, 1, 0], keptMask.getLsbD n = true ∧ signMask.getLsbD n = false ∧
      zeroMask.getLsbD n = false ∧ parityMask.getLsbD n = false := by decide
  obtain ⟨hkept, hsign, hzero, hparity⟩ := hmasks n hn
  simp [getLsbD_updateFlags, hkept, hsign, hzero, hparity]

/-- The model's count of 1 bits is that over the bit numbers. -/
theorem ones_eq_onesCount (v : Byte) : ones v = onesCount v := by
  have hrange : List.range 8 = [0, 1, 2, 3, 4, 5, 6, 7] := rfl
  simp [ones, onesCount, hrange, ← List.countP_eq_length_filter, List.countP_cons, Bool.toNat,
    Bool.cond_eq_ite]

theorem signOf_eq_decide (v : Byte) : signOf v = decide (¬ v.toNat < 0x80) := by
  have hmsb : signOf v = v.msb := (BitVec.msb_eq_getLsbD_last v).symm
  simp only [hmsb, BitVec.msb_eq_decide, not_lt]

theorem zeroOf_eq_decide (v : Byte) : zeroOf v = decide (v = 0x00#8) := beq_eq_decide v 0x00#8

theorem parityOf_eq_decide (v : Byte) : parityOf v = decide (ones v % 2 = 0) := by
  rw [parityOf, ← ones_eq_onesCount, beq_eq_decide]

/-- Settles O25: the bits of the three masks, and the kept ones. -/
theorem updateFlagsFollowsR80 : Obligations.UpdateFlagsFollowsR80 := by
  intro v f
  refine ⟨?_, ?_, ?_, getLsbD_updateFlags_kept v f⟩
  · rw [getLsbD_updateFlags_sign]
    rfl
  · rw [getLsbD_updateFlags_zero, zeroOf_eq_decide, decide_eq_true_iff]
  · rw [getLsbD_updateFlags_parity, parityOf_eq_decide, decide_eq_true_iff]

/-- Settles O26: with no kept bit, F is made of the three masks; a value other than 0 leaves the sign and
the parity to choose among four rows. -/
theorem flagByteAfterAddFollowsR86 : Obligations.FlagByteAfterAddFollowsR86 := by
  intro v f hf
  have hkept : f &&& keptMask = 0x00#8 := hf
  rw [updateFlags, hkept]
  by_cases hv : v = 0x00#8
  · subst hv
    decide
  · rw [if_neg hv, zeroOf_eq_decide, signOf_eq_decide, parityOf_eq_decide]
    by_cases hsign : v.toNat < 0x80 <;>
      rcases Nat.mod_two_eq_zero_or_one (ones v) with hones | hones <;>
        simp [hv, hsign, hones, flagBit, signMask, parityMask]

/-! ### The sum -/

/-- The sum of the bytes is the sum of the numbers modulo 256 (R81, R84). -/
theorem State.sumWith_eq_add (s : State) (v : Byte) : s.sumWith v = s.a + v := by
  apply BitVec.eq_of_toNat_eq
  rw [State.sumWith, BitVec.toNat_ofNat, BitVec.toNat_add, Nat.mod_mod]

/-- The model's add is the spec's, of the value of its source operand (R81 to R84). -/
theorem State.addToA_eq_afterAdd (s : State) (src : Src) :
    s.addToA src = s.afterAdd (s.readSrc src) := by
  rw [State.afterAdd, State.sumWith_eq_add]
  rfl

theorem runsAs_addOf (src : Option Reg8) :
    RunsAs (addOf src) 1 (fun s => s.afterAdd (s.readSrc (srcOf src))) :=
  .of_exec (by rw [Instr.length, operands_addOf]; rfl) fun s => by
    rw [exec_addOf, State.addToA_eq_afterAdd]

/-- Settles O27: the seven register sources of `runsAs_addOf`. -/
theorem addRegisterAddsModulo256 : Obligations.AddRegisterAddsModulo256 :=
  ⟨runsAs_addOf (some .B), runsAs_addOf (some .C), runsAs_addOf (some .D), runsAs_addOf (some .E),
    runsAs_addOf (some .H), runsAs_addOf (some .L), runsAs_addOf (some .A)⟩

/-- Settles O28: `runsAs_addOf` at the source `M`, which is the byte at H*256+L. -/
theorem addMemoryAddsByteAtHL : Obligations.AddMemoryAddsByteAtHL := by
  have heffect (s : State) : s.afterAdd (s.readSrc .mem) = s.afterAdd (s.readByte s.addressHL) :=
    congrArg s.afterAdd s.readSrc_mem_eq
  rw [Obligations.AddMemoryAddsByteAtHL, ← funext heffect]
  exact runsAs_addOf none

/-- Settles O29: exec of `ADI` adds the byte it carries. -/
theorem adiAddsOperandByte : Obligations.AdiAddsOperandByte := fun d8 =>
  .of_exec rfl fun s => congrArg Host.Outcome.next (s.addToA_eq_afterAdd (.imm d8))

/-! ### What no instruction, and what no add, changes -/

/-- F is written by UpdateFlags alone, so no instruction changes a bit that it keeps (R85). -/
theorem exec_keeps_keptFlags {i : Instr} {s t : State} (ht : exec i s = .next t) :
    ∀ n ∈ [5, 4, 3, 1, 0], t.f.getLsbD n = s.f.getLsbD n := by
  obtain h | ⟨-, v, h⟩ := exec_writes_f ht
  · exact fun n _ => by rw [h]
  · exact h ▸ getLsbD_updateFlags_kept v s.f

/-- Settles O30: a halted machine is unchanged, a running one is covered by `exec_keeps_keptFlags`. -/
theorem carryAndAuxCarryAreNeverWritten : Obligations.CarryAndAuxCarryAreNeverWritten := by
  intro s
  cases hs : s.halted with
  | true => exact ⟨s, step_halted hs, fun _ _ => rfl⟩
  | false =>
    obtain ⟨t, ht, hst⟩ := step_running hs
    exact ⟨_, hst, (exec_keeps_keptFlags ht :)⟩

/-- Every instruction of the add family is an add of some source operand (R81 to R83). -/
theorem exec_eq_addToA_of_mem {d8 : Byte} {i : Instr}
    (hi : i ∈ [Instr.addB, .addC, .addD, .addE, .addH, .addL, .addA, .addM, .adi d8]) (s : State) :
    ∃ src, exec i s = .next (s.addToA src) := by
  have hforms : [Instr.addB, .addC, .addD, .addE, .addH, .addL, .addA, .addM, .adi d8] =
      [some .B, some .C, some .D, some .E, some .H, some .L, some .A, none].map addOf ++
        [.adi d8] := rfl
  rw [hforms, List.mem_append, List.mem_map, List.mem_singleton] at hi
  obtain ⟨src, -, rfl⟩ | rfl := hi
  · exact ⟨_, exec_addOf src s⟩
  · exact ⟨.imm d8, rfl⟩

/-- Settles O50: each form is an add, whose effect is on A and F, and no instruction changes the other bits
of F. -/
theorem addFamilyChangesOnlyAAndThreeFlags : Obligations.AddFamilyChangesOnlyAAndThreeFlags := by
  intro d8 i hi s t ht
  have hflags := exec_keeps_keptFlags ht
  obtain ⟨src, hadd⟩ := exec_eq_addToA_of_mem hi s
  obtain rfl := Host.Outcome.next.inj (hadd.symm.trans ht)
  exact ⟨fun r hr => State.getReg_addToA_ne (List.ne_of_not_mem_cons hr), hflags, s.addToA_pc src,
    s.addToA_sp src, s.addToA_halted src, ⟨s.addToA_count src, s.addToA_trace src⟩, fun _ => rfl⟩

end Sys2Proof.Machine
end

section
/-! PROOF. Machine control (42_machine_control.md R90 to R94): a step always completes and reports what it
ran, a run goes on, and `NOP`, `HLT` and the unimplemented opcodes have no effect but the halted bit. -/

namespace Sys2Proof.Machine

/-! ### The step and the run -/

/-- Settles O13, which is `step_of_atPc`. -/
theorem stepRunsDecodedInstruction : Obligations.StepRunsDecodedInstruction :=
  fun _ _ hrun hi => step_of_atPc hrun hi

theorem step_next (s : State) : ∃ t, step s = .next t := by
  cases hs : s.halted with
  | true => exact ⟨s, step_halted hs⟩
  | false =>
    obtain ⟨t, -, hst⟩ := step_running hs
    exact ⟨_, hst⟩

/-- A step of a running machine is counted, and one snapshot is emitted, of the instruction at PC and the
state after the step (R20, R90). -/
theorem step_reports_of_atPc {s : State} {i : Instr} (hrun : s.halted = false) (hi : s.AtPc i) :
    ∃ t, step s = .next t ∧ t.count = s.count + 1 ∧
      t.trace = t.snapshot Config.traceWindow (reportOf i) :: s.trace := by
  obtain ⟨u, hu, hst⟩ := step_of_atPc hrun hi
  obtain ⟨-, hcount, htrace⟩ := exec_frame hu
  refine ⟨u.report i, hst, ?_, ?_⟩
  · rw [State.report_count, hcount, State.pastBytes_count]
  · rw [State.report_trace, htrace]
    rfl

/-- Settles O14, by `step_next` and `step_reports_of_atPc`. -/
theorem stepAlwaysCompletes : Obligations.StepAlwaysCompletes := by
  refine ⟨step_next, fun s hrun => ?_⟩
  obtain ⟨i, hi⟩ := s.exists_atPc
  obtain ⟨t, hst, hcount, htrace⟩ := step_reports_of_atPc hrun hi
  exact ⟨i, t, _, hi, hst, hcount, htrace⟩

/-- Settles O15, by induction on the number of steps: a machine that is halted when a step is due stays
halted to the end of the run, so every step of a run that ends not halted is counted. -/
theorem runGoesOnAndCountsEveryStep : Obligations.RunGoesOnAndCountsEveryStep := by
  intro k
  induction k with
  | zero => exact fun s => ⟨s, rfl, fun _ => rfl⟩
  | succ k ih =>
    intro s
    cases hs : s.halted with
    | true =>
      exact ⟨s, haltedMachineKeepsItsState s (k + 1) hs, fun hrun => by simp [hs] at hrun⟩
    | false =>
      obtain ⟨i, hi⟩ := s.exists_atPc
      obtain ⟨u, hst, hcount, -⟩ := step_reports_of_atPc hs hi
      obtain ⟨t, hrun, hcounted⟩ := ih u
      refine ⟨t, ?_, fun ht => ?_⟩
      · rw [runSteps_succ, hst]
        exact hrun
      · rw [hcounted ht, hcount]
        omega

/-! ### Unimplemented opcodes -/

theorem length_of_isUnimplemented {i : Instr} (h : i.isUnimplemented = true) : i.length = 1 := by
  rw [Instr.length, Laws.operands_length,
    formatOfOpcode_of_not_mem i.opcode (i.isUnimplemented_iff.mp h)]
  rfl

/-- Settles O33: exec has no effect, and the class and the length are those of the opcode byte. -/
theorem unimplementedOpcodeIsReportedNoOp : Obligations.UnimplementedOpcodeIsReportedNoOp := by
  intro i h
  have hop : i.opcode ∉ implementedOpcodes := i.isUnimplemented_iff.mp h
  exact ⟨.of_exec (length_of_isUnimplemented h) (exec_unimplemented h),
    reportOf_of_opcode_not_mem hop, hop⟩

/-- An instruction is reported as UNIMPLEMENTED(op) exactly when `op` is its opcode byte and none of the 31
(R94, R102). -/
theorem reportOf_eq_unimplemented_iff (i : Instr) (op : Byte) :
    reportOf i = .unimplemented op ↔ i.opcode = op ∧ op ∉ implementedOpcodes := by
  by_cases h : i.opcode ∈ implementedOpcodes
  · rw [reportOf_of_opcode_mem h]
    constructor
    · nofun
    · rintro ⟨rfl, hop⟩
      exact absurd h hop
  · rw [reportOf_of_opcode_not_mem h, Report.unimplemented.injEq]
    exact ⟨fun heq => ⟨heq, heq ▸ h⟩, And.left⟩

/-- Settles O40: the snapshot names the instruction at PC, whose opcode byte is the byte at PC. -/
theorem unimplementedMarkIffByteOutsideR54 : Obligations.UnimplementedMarkIffByteOutsideR54 := by
  intro s op hrun
  obtain ⟨i, hi⟩ := s.exists_atPc
  obtain ⟨t, hst, -, htrace⟩ := step_reports_of_atPc hrun hi
  refine ⟨t, _, hst, htrace, ?_⟩
  rw [← hi.opcode]
  exact reportOf_eq_unimplemented_iff i op

/-! ### `NOP`, `HLT`, and the frame of all three kinds -/

/-- Settles O31: exec of `NOP` answers the state it was given. -/
theorem nopChangesOnlyPcAndCount : Obligations.NopChangesOnlyPcAndCount :=
  ⟨.of_exec rfl fun _ => rfl, rfl⟩

/-- Settles O32: the first step sets the halted bit, and a halted machine keeps its state. -/
theorem hltStopsTheMachine : Obligations.HltStopsTheMachine := by
  refine ⟨.of_exec rfl fun _ => rfl, rfl, fun s k hrun hi => ?_⟩
  rw [runSteps_succ, step_eq_of_exec hrun hi rfl]
  exact haltedMachineKeepsItsState _ k rfl

/-- `NOP`, `HLT` and the unimplemented opcodes write the halted bit at most (R92 to R94). -/
theorem exec_nop_hlt_unimplemented {i : Instr} {s t : State}
    (hi : i = .nop ∨ i = .hlt ∨ i.isUnimplemented = true) (ht : exec i s = .next t) :
    ∃ halted, t = { s with halted } := by
  rcases hi with rfl | rfl | h
  · exact ⟨s.halted, (Host.Outcome.next.inj ht).symm⟩
  · exact ⟨true, (Host.Outcome.next.inj ht).symm⟩
  · exact ⟨s.halted, Host.Outcome.next.inj (ht.symm.trans (exec_unimplemented h s))⟩

/-- Settles O52: nothing but the halted bit is written, and by `exec_halted_iff` that by `HLT` alone. -/
theorem nopHltUnimplementedChangeNoData : Obligations.NopHltUnimplementedChangeNoData := by
  intro i hi s t ht
  have hhalted : i ≠ .hlt → s.KeepsHalted t := fun hne =>
    Bool.eq_iff_iff.mpr (by simpa [hne] using exec_halted_iff ht)
  obtain ⟨halted, rfl⟩ := exec_nop_hlt_unimplemented hi ht
  exact ⟨fun r _ => by cases r <;> rfl, rfl, rfl, rfl, hhalted, ⟨rfl, rfl⟩, fun _ => rfl⟩

end Sys2Proof.Machine
end

section
/-! PROOF. The snapshot that ends a step (60_exceptions.md R108): the bytes of its window, and the record of
the state after the step. -/

namespace Sys2Proof.Machine

@[simp] theorem State.windowBytes_length (s : State) (w : TraceWindow) :
    (s.windowBytes w).length = w.length := by
  simp [State.windowBytes]

/-- The window shows at place `n` the byte at base + `n`, modulo 65536 (R108). -/
theorem State.windowBytes_getElem? (s : State) {w : TraceWindow} {n : Nat} (hn : n < w.length) :
    (s.windowBytes w)[n]? = some (s.readByte (w.base + BitVec.ofNat 16 n)) := by
  simp [State.windowBytes, List.getElem?_range hn]

/-- The identity of the step that runs the instruction at PC (R94, R108): an unimplemented one is named by
the byte at PC. -/
theorem State.AtPc.reportOf_eq {s : State} {i : Instr} (hi : s.AtPc i) :
    reportOf i = if i.isUnimplemented then .unimplemented (s.readByte s.pc) else .executed i := by
  rw [reportOf, hi.opcode]

/-- Settles O39: by `step_reports_of_atPc` the snapshot is the one of the state after the step, so its
registers and its number are read off it. -/
theorem snapshotShowsStateAfterStep : Obligations.SnapshotShowsStateAfterStep := by
  intro s i hrun hi
  obtain ⟨t, hst, hcount, htrace⟩ := step_reports_of_atPc hrun hi
  exact ⟨t, _, hst, htrace, hcount, rfl, hi.reportOf_eq, rfl, rfl, rfl, rfl, rfl, rfl, rfl, rfl, rfl, rfl,
    t.windowBytes_length _, fun _ hn => t.windowBytes_getElem? hn⟩

end Sys2Proof.Machine
end

section
/-! PROOF. Reset is the boot with nothing loaded (70_reset_and_hazards.md section 1; log 2, log 3, log 5). -/

namespace Sys2Proof.Machine

/-- The `IMAGE` that is zero everywhere lists no cell: its memory and the empty one are canonical and read
alike (log 2). -/
@[simp] theorem Memory.ofImage_zero : Memory.ofImage (fun _ => 0x00#8) = [] :=
  canonicalMemoriesThatReadAlikeAreEqual _ _ (Memory.wf_ofImage _) Memory.wf_nil
    (Memory.read_ofImage _)

/-- Settles O2: the two states could differ in memory only, and there `Memory.ofImage_zero` says they agree;
the trace is the one of reset. -/
theorem resetIsBootOfTheZeroImage : Obligations.ResetIsBootOfTheZeroImage := by
  refine ⟨?_, fun _ => rfl⟩
  rw [State.boot, Memory.ofImage_zero]
  rfl

end Sys2Proof.Machine
end
